-- ==== Sys2Proof/Config.lean ====
section
/-! DEFINITION. The figures the manual fixes for every part. Times are milliseconds. No figure here is a free value:
the manual states each. -/

namespace Sys2Proof.Config

/-- The length of LISTEN (R5). -/
def listenTime : Nat := 5000
/-- The beacon period (R23). -/
def beaconPeriod : Nat := 2000
/-- The age at which a peer record leaves the table (R31), in milliseconds. -/
def peerLife : Nat := 7000
/-- How long REFUSED shows (R48). -/
def refusedTime : Nat := 1000
/-- The longest wait for the lamp-on sense in one ignite attempt (R50). -/
def attemptTime : Nat := 2000
/-- The gap between two ignite attempts (R50). -/
def gapTime : Nat := 3000
/-- The number of ignite attempts of one strike (R54). -/
def maxAttempts : Nat := 3
/-- The switch timer's length (R99). -/
def switchTime : Nat := 3000
/-- The search timer's length (R100). -/
def searchTime : Nat := 10000
/-- The hops of a fallback chain (R103). -/
def fallbackHops : Nat := 3
/-- The handoff timer's length (R119). -/
def handoffTime : Nat := 200
/-- The wait for the memory's answer to a READ or a WRITE (R178, R180). -/
def memoryTime : Nat := 50
/-- The frames the transmit queue holds (R9). -/
def queueSize : Nat := 8
/-- The attempt count at which a further line fault removes the frame (R15). -/
def maxRetries : Nat := 3
/-- The largest payload length (R1, R18). -/
def maxPayload : Nat := 24
/-- The entries the lock stack holds (R130). -/
def stackSize : Nat := 4
/-- The records of the serial memory (11.2). -/
def recordCount : Nat := 51
/-- The largest value of E, lit seconds, strikes and seconds since extinction (R75). -/
def counterMax : Nat := 4294967295
/-- The housing temperature that sets the hot flag (R69). -/
def hotAt : Int := 80
/-- The housing temperature of a thermal trip (R70). -/
def tripAt : Int := 95
/-- The housing temperature below which THERMAL TRIP is clearable (R71). -/
def clearBelow : Int := 70
/-- The seconds since extinction from which a strike is cold (R80). -/
def coldAfter : Nat := 1800
/-- The charge of a cold strike (R80). -/
def coldCharge : Nat := 300
/-- The charge of a warm strike, and of one whose time since extinction is unknown (R80). -/
def warmCharge : Nat := 900
/-- The charge of a failed ignite attempt (R81). -/
def failedCharge : Nat := 60
/-- The lamp seconds between two marks of the wear record (R78). -/
def markEvery : Nat := 360
/-- The authority of a schedule selection (R106). -/
def scheduleAuthority : Nat := 7

end Sys2Proof.Config
end

