-- ==== Sys2Proof/Word.lean ====
section
/-! DEFINITION. The byte, the unit in which the hall line and the serial memory carry data (01_the_hall_line.md 1.10). -/

namespace Sys2Proof

/-- One byte of a frame or of a stored record. -/
abbrev Byte := BitVec 8

end Sys2Proof
end

