-- ==== Sys2Proof/Syntax.lean ====
section
/-! DEFINITION. The commands of the ZT440, one constructor for each row of spec/opcode_table.json, with what each
brings from outside the part. -/

namespace Sys2Proof

/-- An ORDER frame whose check and form the receive path has passed (R18, R19): the source address, the destination
byte, the authority, the tag and the argument bytes that follow order code and tag. The order code is the
constructor's (01_the_hall_line.md 1.10). -/
structure OrderFrame where
  source : BitVec 5
  dest : Byte
  authority : BitVec 3
  tag : Byte
  args : List Byte
  deriving DecidableEq, Repr

/-- The kinds of frame on the hall line (1.10, kind and authority). -/
inductive FrameKind where
  | beacon
  | order
  | answer
  | clock
  | notice
  | cue
  deriving DecidableEq, Repr

/-- A frame of the hall line without its payload length and its check, which follow from the rest (R1). -/
structure Frame where
  cls : BitVec 2
  source : BitVec 5
  dest : Byte
  kind : FrameKind
  authority : BitVec 3
  payload : List Byte
  deriving DecidableEq, Repr

/-- What the receive path makes of the bytes of one frame (R18, R19): a payload length above 24, a frame that fails its
length, its check or the header screen, or a frame. -/
inductive FrameReading where
  | overlong
  | bad
  | frame (f : Frame)
  deriving DecidableEq, Repr

/-- The orders, one for each order code (1.10, order codes and arguments). -/
inductive OrderKind where
  | light
  | rest
  | setMode
  | showPicture
  | blank
  | select
  | aliasWrite
  | aliasClear
  | setKeystone
  | nudgeKeystone
  | storePreset
  | recallPreset
  | lock
  | unlock
  | entryWrite
  | entryClear
  | timeSet
  | acknowledge
  | query
  | wearReset
  | settingsWrite
  | restart
  deriving DecidableEq, Repr

/-- The commands. A received frame that is no order comes as its bytes, header to check (R18). -/
inductive Instr where
  /-- POWER_ON (R183). -/
  | powerOn
  /-- RESET_PIN (R183). -/
  | resetPin
  /-- RESET_RELEASE (R184), with the address straps and the time-reference strap. -/
  | resetRelease (address : BitVec 5) (timeReference : Bool)
  /-- LISTEN_END (R5). -/
  | listenEnd
  /-- CONTEND_FOR_LINE (R13), with the bytes another station begins with at the same idle moment, none if none does. -/
  | contendForLine (rival : List Byte)
  /-- FRAME_SENT (R14). -/
  | frameSent
  /-- LINE_FAULT (R14). -/
  | lineFault
  /-- BEACON_RECEIVED (R27). -/
  | beaconReceived (frame : List Byte)
  /-- CLOCK_RECEIVED (R144). -/
  | clockReceived (frame : List Byte)
  /-- CUE_RECEIVED (R110). -/
  | cueReceived (frame : List Byte)
  /-- FRAME_DISCARDED (R18). -/
  | frameDiscarded (frame : List Byte)
  /-- UNKNOWN_ORDER (R36), with the order code. -/
  | unknownOrder (code : Byte) (order : OrderFrame)
  /-- LIGHT (R60). -/
  | light (order : OrderFrame)
  /-- REST (R62). -/
  | rest (order : OrderFrame)
  /-- SET_MODE (R67). -/
  | setMode (order : OrderFrame)
  /-- SHOW (R108). -/
  | showPicture (order : OrderFrame)
  /-- BLANK (R108). -/
  | blank (order : OrderFrame)
  /-- SELECT (R98). -/
  | select (order : OrderFrame)
  /-- ALIAS_WRITE (R94). -/
  | aliasWrite (order : OrderFrame)
  /-- ALIAS_CLEAR (R95). -/
  | aliasClear (order : OrderFrame)
  /-- SET_KEYSTONE (R115). -/
  | setKeystone (order : OrderFrame)
  /-- NUDGE_KEYSTONE (R116). -/
  | nudgeKeystone (order : OrderFrame)
  /-- STORE_PRESET (R123). -/
  | storePreset (order : OrderFrame)
  /-- RECALL_PRESET (R124). -/
  | recallPreset (order : OrderFrame)
  /-- LOCK (R134). -/
  | lock (order : OrderFrame)
  /-- UNLOCK with the all-flag clear (R135). -/
  | unlock (order : OrderFrame)
  /-- UNLOCK with the all-flag set (R136). -/
  | unlockAll (order : OrderFrame)
  /-- ENTRY_WRITE (R149). -/
  | entryWrite (order : OrderFrame)
  /-- ENTRY_CLEAR (R150). -/
  | entryClear (order : OrderFrame)
  /-- TIME_SET (R145). -/
  | timeSet (order : OrderFrame)
  /-- ACKNOWLEDGE (R176). -/
  | acknowledge (order : OrderFrame)
  /-- QUERY of STATUS (R21), and every QUERY whose form or record code R37 or R44 refuses. -/
  | queryStatus (order : OrderFrame)
  /-- QUERY of WEAR (R92). -/
  | queryWear (order : OrderFrame)
  /-- QUERY of ALIAS (R112). -/
  | queryAlias (order : OrderFrame)
  /-- QUERY of ENTRY (R158). -/
  | queryEntry (order : OrderFrame)
  /-- QUERY of LOCKS (R141). -/
  | queryLocks (order : OrderFrame)
  /-- QUERY of PEER (R34). -/
  | queryPeer (order : OrderFrame)
  /-- QUERY of CONDITIONS (R45). -/
  | queryConditions (order : OrderFrame)
  /-- QUERY of GEOMETRY (R129). -/
  | queryGeometry (order : OrderFrame)
  /-- QUERY of PRESET (R129). -/
  | queryPreset (order : OrderFrame)
  /-- QUERY of CLOCK (R158). -/
  | queryClock (order : OrderFrame)
  /-- QUERY of SETTINGS (R45). -/
  | querySettings (order : OrderFrame)
  /-- WEAR_RESET (R86). -/
  | wearReset (order : OrderFrame)
  /-- SETTINGS_WRITE (R182). -/
  | settingsWrite (order : OrderFrame)
  /-- RESTART (R183). -/
  | restart (order : OrderFrame)
  /-- RESTART_RESET (R183). -/
  | restartReset
  /-- POWER_KEY (R47). -/
  | powerKey
  /-- SOURCE_KEY (R47). -/
  | sourceKey
  /-- BLANK_KEY (R47). -/
  | blankKey
  /-- V_KEY (R47): V+ when plus is set, V− when it is clear. -/
  | vKey (plus : Bool)
  /-- H_KEY (R47): H+ when plus is set, H− when it is clear. -/
  | hKey (plus : Bool)
  /-- REFUSED_TIMEOUT (R48). -/
  | refusedTimeout
  /-- BEACON_PERIOD (R23). -/
  | beaconPeriod
  /-- PEER_AGE_OUT (R31), with the address of the record that reaches 7 s. -/
  | peerAgeOut (address : BitVec 5)
  /-- ONE_SECOND_TICK (R69), with the housing sample in degrees Celsius. -/
  | oneSecondTick (sample : Int)
  /-- PREHEAT_TIMER (R52). -/
  | preheatTimer
  /-- ATTEMPT_RUNS_OUT (R54). -/
  | attemptRunsOut
  /-- GAP_RUNS_OUT (R52). -/
  | gapRunsOut
  /-- IGNITION (R53): the lamp-on sense appears. -/
  | ignition
  /-- DROPOUT (R56): the lamp-on sense is lost. -/
  | dropout
  /-- WARMUP_TIMER (R55). -/
  | warmupTimer
  /-- COOLDOWN_TIMER (R58). -/
  | cooldownTimer
  /-- LOCK_REPORT (R100), with the port the switcher has locked to. -/
  | lockReport (port : Nat)
  /-- SWITCH_TIMER (R101). -/
  | switchTimer
  /-- SIGNAL_PRESENCE_REPORT (R102), with the port and whether it has signal. -/
  | signalPresenceReport (port : Nat) (present : Bool)
  /-- SEARCH_TIMER (R103). -/
  | searchTimer
  /-- APPLIED (R120), with the handoff number. -/
  | applied (number : Byte)
  /-- HANDOFF_TIMER (R121). -/
  | handoffTimer
  /-- MINUTE_TICK (R137). -/
  | minuteTick
  /-- MINUTE_BOUNDARY (R153). -/
  | minuteBoundary
  /-- STRIKE_HOLDOFF (R167). -/
  | strikeHoldoff
  /-- READ_ANSWERED (R180), with the record's bytes, its check byte last. -/
  | readAnswered (bytes : List Byte)
  /-- READ_TIMEOUT (R180). -/
  | readTimeout
  /-- WRITE_CONFIRMED (R178), of the WRITE in flight unless `late`: the confirmation of a WRITE whose 50 ms were over
  before it came (R179; log 17). -/
  | writeConfirmed (late : Bool := false)
  /-- WRITE_TIMEOUT (R179). -/
  | writeTimeout
  /-- LINE_FALLS_IDLE (R18). -/
  | lineFallsIdle
  deriving DecidableEq, Repr

end Sys2Proof
end

