-- ==== Sys2Proof/Decode.lean ====
section
/-! DEFINITION. Reading and writing the bytes of a frame (R1, R2, R18, R19), the order codes, and the host's
`decodeTableWord`. -/

namespace Sys2Proof

/-! ## Numbers in bytes, most significant byte first (1.10) -/

/-- The byte that carries a number below 256. -/
def byteOf (n : Nat) : Byte := BitVec.ofNat 8 n

/-- The `k` bytes of a number, most significant first. -/
def bytesOf : Nat → Nat → List Byte
  | 0, _ => []
  | k + 1, n => byteOf (n / 256 ^ k) :: bytesOf k n

/-- The number that bytes carry, most significant first. -/
def numberOf (bytes : List Byte) : Nat :=
  bytes.foldl (fun n b => n * 256 + b.toNat) 0

/-- A signed number as a byte, two's complement. -/
def signedByteOf (x : Int) : Byte := BitVec.ofInt 8 x

/-- The byte of a flag. -/
def flagByte (b : Bool) : Byte := if b then 1 else 0

/-! ## The check (R2) -/

/-- One bit enters the remainder register; the generator is x^16 + x^12 + x^5 + 1 (R2). -/
def checkBit (r : BitVec 16) (b : Bool) : BitVec 16 :=
  if r.msb != b then (r <<< 1) ^^^ 0x1021#16 else r <<< 1

/-- One byte enters the remainder register, most significant bit first (R2). -/
def enterByte (r : BitVec 16) (b : Byte) : BitVec 16 :=
  [7, 6, 5, 4, 3, 2, 1, 0].foldl (fun r i => checkBit r (b.getLsbD i)) r

/-- The check over the bytes of a frame that precede it (R2). -/
def frameCheck (bytes : List Byte) : BitVec 16 :=
  bytes.foldl enterByte 0xFFFF#16

/-! ## Header fields (1.10) -/

/-- The code of a frame kind. -/
def FrameKind.code : FrameKind → BitVec 4
  | .beacon => 1
  | .order => 2
  | .answer => 3
  | .clock => 4
  | .notice => 5
  | .cue => 6

/-- The frame kind of a code; none for a code that is not one of the six (R19). -/
def FrameKind.ofCode (c : BitVec 4) : Option FrameKind :=
  match c.toNat with
  | 1 => some .beacon
  | 2 => some .order
  | 3 => some .answer
  | 4 => some .clock
  | 5 => some .notice
  | 6 => some .cue
  | _ => none

/-- The destination kind, bits 7 and 6: 0 station, 1 group, 2 all, 3 invalid. -/
def destKind (dest : Byte) : Nat := (dest.extractLsb' 6 2).toNat

/-- The destination value, bits 4 to 0. -/
def destValue (dest : Byte) : Nat := (dest.extractLsb' 0 5).toNat

/-- The destination passes the header screen (R19). -/
def destOk (dest : Byte) : Bool :=
  match destKind dest with
  | 0 => destValue dest != 0
  | 1 => decide (destValue dest ≤ 7)
  | 2 => true
  | _ => false

/-- The destination byte of all stations. -/
def destAll : Byte := 0x80

/-- The destination byte of one station. -/
def destStation (address : BitVec 5) : Byte := 0#3 ++ address

/-- A source address that passes the header screen (R19). -/
def sourceOk (source : BitVec 5) : Bool := source != 0 && source != 31

/-! ## Whole frames -/

/-- The arbitration byte: class, reserved bit, source address. Read as a number it is the arbitration key (1.1). -/
def Frame.arbitrationByte (f : Frame) : Byte := f.cls ++ 0#1 ++ f.source

/-- The bytes of a frame that its check protects (R1, R2). -/
def Frame.body (f : Frame) : List Byte :=
  f.arbitrationByte :: f.dest :: ((f.kind.code ++ 0#1 ++ f.authority : BitVec 8)) ::
    byteOf f.payload.length :: f.payload

/-- The bytes of a frame as they go on the line (R1). -/
def Frame.bytes (f : Frame) : List Byte :=
  f.body ++ bytesOf 2 (frameCheck f.body).toNat

/-- The header screen and the fields of a frame whose check has passed (R19). -/
def readHeader (arb dest kindByte : Byte) (payload : List Byte) : FrameReading :=
  match FrameKind.ofCode (kindByte.extractLsb' 4 4) with
  | none => .bad
  | some kind =>
    if !arb.getLsbD 5 && sourceOk (arb.extractLsb' 0 5) && destOk dest && !kindByte.getLsbD 3 then
      .frame
        { cls := arb.extractLsb' 6 2
          source := arb.extractLsb' 0 5
          dest := dest
          kind := kind
          authority := kindByte.extractLsb' 0 3
          payload := payload }
    else .bad

/-- The receive path reads one frame: delimited by its length byte, checked, its header screened (R18, R19). Bytes
after the check are no part of the frame. -/
def readFrame : List Byte → FrameReading
  | arb :: dest :: kindByte :: len :: rest =>
    if len.toNat > Config.maxPayload then .overlong
    else if rest.length < len.toNat + 2 then .bad
    else
      let payload := rest.take len.toNat
      if numberOf ((rest.drop len.toNat).take 2) =
          (frameCheck (arb :: dest :: kindByte :: len :: payload)).toNat then
        readHeader arb dest kindByte payload
      else .bad
  | _ => .bad

/-- The second, length screen of R19. -/
def lengthSuits (kind : FrameKind) (payload : List Byte) : Bool :=
  match kind with
  | .beacon =>
    decide (1 ≤ payload.length ∧ payload.length ≤ 24) &&
      (payload.head? != some 1 || payload.length == 14)
  | .order => decide (2 ≤ payload.length ∧ payload.length ≤ 24)
  | .answer => decide (3 ≤ payload.length ∧ payload.length ≤ 23)
  | .clock => payload.length == 4
  | .notice => payload.length == 3
  | .cue => payload.length == 2

/-! ## Order codes (1.10) -/

/-- The code of an order. -/
def OrderKind.code : OrderKind → Byte
  | .light => 0x10
  | .rest => 0x11
  | .setMode => 0x12
  | .showPicture => 0x20
  | .blank => 0x21
  | .select => 0x22
  | .aliasWrite => 0x23
  | .aliasClear => 0x24
  | .setKeystone => 0x30
  | .nudgeKeystone => 0x31
  | .storePreset => 0x32
  | .recallPreset => 0x33
  | .lock => 0x40
  | .unlock => 0x41
  | .entryWrite => 0x50
  | .entryClear => 0x51
  | .timeSet => 0x52
  | .acknowledge => 0x60
  | .query => 0x61
  | .wearReset => 0x62
  | .settingsWrite => 0x70
  | .restart => 0x71

/-- Every order. -/
def allOrders : List OrderKind :=
  [.light, .rest, .setMode, .showPicture, .blank, .select, .aliasWrite, .aliasClear, .setKeystone, .nudgeKeystone,
    .storePreset, .recallPreset, .lock, .unlock, .entryWrite, .entryClear, .timeSet, .acknowledge, .query, .wearReset,
    .settingsWrite, .restart]

/-- The order of a code; none for an unknown code (R36). -/
def orderOfCode (code : Byte) : Option OrderKind :=
  allOrders.find? fun k => k.code == code

/-- The order frame that a received ORDER frame's payload spells; none for a payload too short for R19. -/
def orderOfFrame (f : Frame) : Option (Byte × OrderFrame) :=
  match f.payload with
  | code :: tag :: args => some (code, { source := f.source, dest := f.dest, authority := f.authority, tag, args })
  | _ => none

/-! ## The host's reading of a table word -/

/-- No row of spec/opcode_table.json gives bits, so no word spells a command. -/
def decodeTableWord (_nbits _w : Nat) : Option Instr := none

end Sys2Proof
end

