-- ==== Sys2Proof/Machine/State.lean ====
section
/-! DEFINITION. The state of the ZT440, block by block (00_scope.md, Block overview), its value after reset, and the
reasons a step can stop. Timers hold the moment at which they run out, in milliseconds since the release of reset;
`none` is stopped. -/

namespace Sys2Proof.Machine

/-! ## Names -/

/-- The line state (R5 to R8). -/
inductive LineState where
  | listen
  | active
  | clash
  deriving DecidableEq, Repr

/-- The lamp state (R49). -/
inductive LampState where
  | dark
  | preheat
  | ignite
  | warmup
  | lit
  | cooldown
  deriving DecidableEq, Repr

/-- The power mode (R67). -/
inductive PowerMode where
  | eco
  | normal
  | full
  deriving DecidableEq, Repr

/-- The lit cause (R64); `noCause` is the manual's NONE. -/
inductive LitCause where
  | noCause
  | order
  | key
  | schedule
  deriving DecidableEq, Repr

/-- The life state (R82); `noLife` is the manual's none. -/
inductive LifeState where
  | noLife
  | lifeLow
  | lifeOut
  | expired
  deriving DecidableEq, Repr

/-- The nine conditions (R174). -/
inductive Condition where
  | ignitionFailed
  | lampOut
  | thermalTrip
  | lifeLow
  | noSignal
  | geometryFault
  | transmitFailed
  | peerTableFull
  | storeFault
  deriving DecidableEq, Repr

/-- The categories of conditions, which the notice mask names (11.1). -/
inductive Category where
  | lamp
  | picture
  | line
  | store
  deriving DecidableEq, Repr

/-- The answer results (3.2). -/
inductive Result where
  | done
  | started
  | held
  | adjusted
  | locked
  | authority
  | range
  | state
  | conflict
  | full
  | unknown
  deriving DecidableEq, Repr

/-- The selection state (R97). -/
inductive Selection where
  | noSource
  | switching
  | settled
  | searching
  deriving DecidableEq, Repr

/-- Why a frame could not be sent (R16). -/
inductive FailureReason where
  | queueFull
  | lineFault
  deriving DecidableEq, Repr

/-- A record of the serial settings memory (11.2). -/
inductive RecordId where
  | settings
  | wear
  | aliasAt (position : Fin 16)
  | entryAt (slot : Fin 32)
  | geometry
  deriving DecidableEq, Repr

/-! ## Port commands, which the views of Machine/Flags.lean derive -/

/-- The command standing at the ballast port (4.1). -/
inductive Ballast where
  | off
  | heat
  | ignitePulse
  | run (mode : PowerMode)
  deriving DecidableEq, Repr

/-- The command standing at the fan port (4.1). -/
inductive Fans where
  | off
  | low
  | high
  deriving DecidableEq, Repr

/-- The input command standing at the switcher (6). -/
inductive SwitcherInput where
  | park
  | switchTo (port : Nat)
  deriving DecidableEq, Repr

/-- The output command standing at the switcher (6). -/
inductive SwitcherOutput where
  | showPicture
  | mute
  deriving DecidableEq, Repr

/-- The local indicator's showing (R48). -/
inductive Indicator where
  | blank
  | refused
  | clash
  deriving DecidableEq, Repr

/-- The duty decision of an evaluation (R165). -/
inductive DutyDecision where
  | noDuty
  | counted
  | on
  | off
  deriving DecidableEq, Repr

/-! ## Records -/

/-- A frame waiting in the transmit queue with its attempt count (R9), and whether it is the ANSWER a pending restart
waits for (R183). -/
structure QueuedFrame where
  frame : Frame
  attempts : Nat
  forRestart : Bool
  deriving DecidableEq, Repr

/-- The record of the failure log (1.7); order code and tag for an ANSWER only. -/
structure FailureRecord where
  reason : FailureReason
  kind : FrameKind
  dest : Byte
  codeTag : Option (Byte × Byte)
  deriving DecidableEq, Repr

/-- The facts a BEACON carries besides its role (R21, R22). -/
structure Beacon where
  lamp : LampState
  mode : PowerMode
  cause : LitCause
  offer : Option Nat
  declined : Bool
  shown : Bool
  clockValid : Bool
  wearKey : Nat
  source : Nat
  level : Nat
  summary : BitVec 16
  membership : Byte
  deriving DecidableEq, Repr

/-- A peer record (2.3); its age is counted from the moment its last accepted beacon arrived. -/
structure PeerRecord where
  address : BitVec 5
  beacon : Beacon
  heardAt : Nat
  deriving DecidableEq, Repr

/-- The lamp wear record (R75); a label without characters is none. -/
structure WearRecord where
  equivalent : Nat
  residue : Nat
  litSeconds : Nat
  strikes : Nat
  label : List Byte
  deriving DecidableEq, Repr

/-- An entry of the alias table (6.1). -/
structure AliasEntry where
  source : Nat
  port : Nat
  fallback : Option Nat
  label : List Byte
  deriving DecidableEq, Repr

/-- A keystone pair (R114). -/
structure Keystone where
  kv : Int
  kh : Int
  deriving DecidableEq, Repr

/-- A corner set with the pair it was computed from (R117). -/
structure CornerSet where
  topLeft : Nat × Nat
  topRight : Nat × Nat
  bottomRight : Nat × Nat
  bottomLeft : Nat × Nat
  pair : Keystone
  deriving DecidableEq, Repr

/-- The corner set in flight, with its handoff number and its sends (R119). -/
structure FlightSet where
  number : Nat
  corners : CornerSet
  sends : Nat
  deriving DecidableEq, Repr

/-- An entry of the lock stack (chapter Lockout). -/
structure LockEntry where
  level : Nat
  holder : Nat
  minutes : Option Nat
  deriving DecidableEq, Repr

/-- An entry of the schedule table (9.2). -/
structure Entry where
  days : Byte
  start : Nat
  stop : Nat
  group : Nat
  demand : Nat
  source : Option Nat
  preset : Option Nat
  mode : Option PowerMode
  level : Option Nat
  deriving DecidableEq, Repr

/-- The strike holdoff while it runs: its length in seconds and the moment it runs out (R167). -/
structure Holdoff where
  length : Nat
  due : Nat
  deriving DecidableEq, Repr

/-- A settings record (R181). -/
structure Settings where
  groups : Byte
  cueSend : Byte
  follow : Byte
  ratedHours : Nat
  marginHours : Nat
  overrunHours : Nat
  preheat : Nat
  warmup : Nat
  cooldown : Nat
  rasterWidth : Nat
  rasterHeight : Nat
  keypadAuthority : Nat
  noticeMask : Byte
  deriving DecidableEq, Repr

/-- The default settings (R181). -/
def Settings.default : Settings :=
  { groups := 1, cueSend := 0, follow := 0, ratedHours := 4000, marginHours := 200, overrunHours := 300, preheat := 5,
    warmup := 60, cooldown := 90, rasterWidth := 1920, rasterHeight := 1200, keypadAuthority := 1, noticeMask := 0x0F }

/-- The write in flight to the serial memory, with the bytes commanded and the last moment at which its confirmation
counts (R178). -/
structure WriteInFlight where
  record : RecordId
  bytes : List Byte
  due : Nat
  deriving DecidableEq, Repr

/-- The records a load has read so far, each as its owner will take it (R180). -/
structure Staged where
  settings : Settings
  wear : WearRecord
  table : Vector (Option AliasEntry) 16
  entries : Vector (Option Entry) 32
  keystone : Keystone
  presets : Vector (Option Keystone) 4
  deriving DecidableEq, Repr

/-! ## The blocks -/

/-- The Line Interface (chapter The hall line). -/
structure Line where
  state : LineState
  address : BitVec 5
  timeReference : Bool
  queue : List QueuedFrame
  attempt : Option Nat
  heldUpdate : Option (List Byte)
  failure : Option FailureRecord
  overflow : Bool
  skipping : Bool
  deriving DecidableEq, Repr

/-- The Peer Table block (chapter Beacons and the peer table). -/
structure Peers where
  table : Vector (Option PeerRecord) 15
  beaconTimer : Option Nat
  image : Option (List Byte)
  deriving DecidableEq, Repr

/-- The Lamp Sequencer (chapter Lamp sequencing). -/
structure Lamp where
  state : LampState
  timer : Option Nat
  inGap : Bool
  attempts : Nat
  heldStrike : Option LitCause
  cause : LitCause
  requested : PowerMode
  housing : Option Int
  sense : Bool
  tickLamp : LampState
  tickMode : PowerMode
  tickHot : Bool
  deriving DecidableEq, Repr

/-- The Wear Counter (chapter Lamp wear). -/
structure Wear where
  record : WearRecord
  sinceExtinction : Option Nat
  deriving DecidableEq, Repr

/-- The Source Router (chapter Sources and picture output); `inputCommands` counts the input commands given to the
switcher since the last reset, SWITCH TO and PARK, so that one given afresh for the input that stands shows (R99; log
14). -/
structure Router where
  table : Vector (Option AliasEntry) 16
  selection : Selection
  current : Option Nat
  pendingTarget : Option Nat
  inFlightPort : Option Nat
  port : Option Nat
  switchTimer : Option Nat
  searchTimer : Option Nat
  signal : Vector Bool 6
  wanted : Bool
  inputCommands : Nat
  deriving DecidableEq, Repr

/-- The Geometry Unit (chapter Keystone geometry). -/
structure Geometry where
  current : Keystone
  presets : Vector (Option Keystone) 4
  inFlight : Option FlightSet
  timer : Option Nat
  lastNumber : Nat
  pendingSet : Option CornerSet
  deriving DecidableEq, Repr

/-- The Lockout Unit (chapter Lockout); the stack is bottom first. `minuteCount` counts the ticks since the last sixtieth
one, and `minuteDue` is set by a sixtieth tick until its minute tick is taken (R137; log 6). -/
structure Lockout where
  stack : List LockEntry
  floor : Nat
  minuteCount : Nat
  minuteDue : Bool
  deriving DecidableEq, Repr

/-- The Schedule Unit (chapter Clock and room schedule); `boundaryDue` is the day and minute of the boundary that a tick
has crossed, until its MINUTE_BOUNDARY is taken (R143; log 6). -/
structure Schedule where
  day : Nat
  minute : Nat
  second : Nat
  valid : Bool
  table : Vector (Option Entry) 32
  governing : Option (Nat × Nat)
  boundaryDue : Option (Nat × Nat)
  deriving DecidableEq, Repr

/-- Shared Duty (chapter Shared duty). -/
structure Duty where
  entryGroup : Option Nat
  entryDemand : Option Nat
  offer : Option Nat
  declined : Bool
  holdoff : Option Holdoff
  deriving DecidableEq, Repr

/-- The Store (11.2 to 11.6). -/
structure Store where
  settings : Settings
  toStore : Settings
  list : List RecordId
  inFlight : Option WriteInFlight
  retry : List RecordId
  loadIndex : Nat
  readTimer : Option Nat
  staged : Staged
  restartPending : Bool
  deriving DecidableEq, Repr

end Sys2Proof.Machine

namespace Sys2Proof.Machine

/-- The state of the part, block by block, behind the queue of commands that wait. -/
structure State where
  pending : List Instr
  released : Bool
  now : Nat
  line : Line
  peers : Peers
  refusedTimer : Option Nat
  lamp : Lamp
  wear : Wear
  router : Router
  geometry : Geometry
  lockout : Lockout
  schedule : Schedule
  duty : Duty
  conditions : BitVec 9
  store : Store
  deriving DecidableEq, Repr

/-- Why a step faults: never. The manual stops the part for no command, so there is no constructor. -/
inductive Fault where
  deriving DecidableEq, Repr

/-- Why a step refuses. -/
inductive Refusal where
  /-- Raised by an arm of `exec` for a command without a meaning; no arm raises it. Safe: nothing is claimed. -/
  | notModelled (mnemonic : String)
  deriving DecidableEq, Repr

/-! ## After reset -/

/-- The zero account of a lamp (R89). -/
def WearRecord.zero : WearRecord :=
  { equivalent := 0, residue := 0, litSeconds := 0, strikes := 0, label := [] }

/-- The defaults that stand before a record is read (R180). -/
def Staged.default : Staged :=
  { settings := Settings.default, wear := WearRecord.zero, table := Vector.replicate 16 none,
    entries := Vector.replicate 32 none, keystone := { kv := 0, kh := 0 }, presets := Vector.replicate 4 none }

/-- The Line Interface after reset (R5, R9, R17), the straps not yet sampled (log 11). That the receive path takes bytes
again, whatever it was ignoring, is the model's choice (log 28). -/
def Line.reset : Line :=
  { state := .listen, address := 0, timeReference := false, queue := [], attempt := none, heldUpdate := none,
    failure := none, overflow := false, skipping := false }

/-- The Peer Table after reset (R25, R26). -/
def Peers.reset : Peers :=
  { table := Vector.replicate 15 none, beaconTimer := none, image := none }

/-- The Lamp Sequencer after reset (R74); its cool-down timer starts when the load completes. -/
def Lamp.reset : Lamp :=
  { state := .cooldown, timer := none, inGap := false, attempts := 0, heldStrike := none, cause := .noCause,
    requested := .normal, housing := none, sense := false, tickLamp := .cooldown, tickMode := .normal,
    tickHot := false }

/-- The Wear Counter after reset (R75, R79). -/
def Wear.reset : Wear :=
  { record := WearRecord.zero, sinceExtinction := none }

/-- The Source Router after reset (R113). -/
def Router.reset : Router :=
  { table := Vector.replicate 16 none, selection := .noSource, current := none, pendingTarget := none,
    inFlightPort := none, port := none, switchTimer := none, searchTimer := none, signal := Vector.replicate 6 false,
    wanted := false, inputCommands := 0 }

/-- The Geometry Unit after reset (R128, R180). That the presets are empty until the load completes is the model's choice
(log 9). -/
def Geometry.reset : Geometry :=
  { current := { kv := 0, kh := 0 }, presets := Vector.replicate 4 none, inFlight := none, timer := none,
    lastNumber := 0, pendingSet := none }

/-- The Lockout Unit after reset (R142). -/
def Lockout.reset : Lockout :=
  { stack := [], floor := 0, minuteCount := 0, minuteDue := false }

/-- The Schedule Unit after reset (R158). -/
def Schedule.reset : Schedule :=
  { day := 0, minute := 0, second := 0, valid := false, table := Vector.replicate 32 none, governing := none,
    boundaryDue := none }

/-- Shared Duty after reset (R159). -/
def Duty.reset : Duty :=
  { entryGroup := none, entryDemand := none, offer := none, declined := false, holdoff := none }

/-- The Store after reset (R178, R180, R183). -/
def Store.reset : Store :=
  { settings := Settings.default, toStore := Settings.default, list := [], inFlight := none, retry := [],
    loadIndex := 0, readTimer := none, staged := Staged.default, restartPending := false }

/-- The part in reset, every block in the state its chapter gives after reset, the reset not yet released (R183,
R184; log 1). -/
def State.reset : State :=
  { pending := [], released := false, now := 0, line := Line.reset, peers := Peers.reset, refusedTimer := none,
    lamp := Lamp.reset, wear := Wear.reset, router := Router.reset, geometry := Geometry.reset,
    lockout := Lockout.reset, schedule := Schedule.reset, duty := Duty.reset, conditions := 0,
    store := Store.reset }

/-! ## A state with one block replaced -/

/-- The state with the Line Interface replaced. -/
def State.withLine (s : State) (x : Line) : State := { s with line := x }
/-- The state with the Peer Table block replaced. -/
def State.withPeers (s : State) (x : Peers) : State := { s with peers := x }
/-- The state with the REFUSED timer replaced. -/
def State.withRefusedTimer (s : State) (x : Option Nat) : State := { s with refusedTimer := x }
/-- The state with the Lamp Sequencer replaced. -/
def State.withLamp (s : State) (x : Lamp) : State := { s with lamp := x }
/-- The state with the Wear Counter replaced. -/
def State.withWear (s : State) (x : Wear) : State := { s with wear := x }
/-- The state with the Source Router replaced. -/
def State.withRouter (s : State) (x : Router) : State := { s with router := x }
/-- The state with the Geometry Unit replaced. -/
def State.withGeometry (s : State) (x : Geometry) : State := { s with geometry := x }
/-- The state with the Lockout Unit replaced. -/
def State.withLockout (s : State) (x : Lockout) : State := { s with lockout := x }
/-- The state with the Schedule Unit replaced. -/
def State.withSchedule (s : State) (x : Schedule) : State := { s with schedule := x }
/-- The state with Shared Duty replaced. -/
def State.withDuty (s : State) (x : Duty) : State := { s with duty := x }
/-- The state with the latched conditions replaced. -/
def State.withConditions (s : State) (x : BitVec 9) : State := { s with conditions := x }
/-- The state with the Store replaced. -/
def State.withStore (s : State) (x : Store) : State := { s with store := x }

end Sys2Proof.Machine
end

