-- ==== Sys2Proof/Machine/Operands.lean ====
section
/-! DEFINITION. The codes of the named values, the forms and ranges of order arguments (R37, R38), what each order kind
requires (R36, R39), and the bytes of entries, settings and stored records (1.10, R177). -/

namespace Sys2Proof.Machine

/-! ## Code values (1.10) -/

/-- The code of a lamp state. -/
def lampCode : LampState → Nat
  | .dark => 0
  | .preheat => 1
  | .ignite => 2
  | .warmup => 3
  | .lit => 4
  | .cooldown => 5

/-- The lamp state of a code; none above 5 (R27). -/
def lampOfCode : Nat → Option LampState
  | 0 => some .dark
  | 1 => some .preheat
  | 2 => some .ignite
  | 3 => some .warmup
  | 4 => some .lit
  | 5 => some .cooldown
  | _ => none

/-- The code of a power mode. -/
def modeCode : PowerMode → Nat
  | .eco => 0
  | .normal => 1
  | .full => 2

/-- The power mode of a code; none above 2. -/
def modeOfCode : Nat → Option PowerMode
  | 0 => some .eco
  | 1 => some .normal
  | 2 => some .full
  | _ => none

/-- The code of a lit cause. -/
def causeCode : LitCause → Nat
  | .noCause => 0
  | .order => 1
  | .key => 2
  | .schedule => 3

/-- The lit cause of a code; none above 3. -/
def causeOfCode : Nat → Option LitCause
  | 0 => some .noCause
  | 1 => some .order
  | 2 => some .key
  | 3 => some .schedule
  | _ => none

/-- The code of a result. -/
def resultCode : Result → Nat
  | .done => 0
  | .started => 1
  | .held => 2
  | .adjusted => 3
  | .locked => 4
  | .authority => 5
  | .range => 6
  | .state => 7
  | .conflict => 8
  | .full => 9
  | .unknown => 10

/-- The code of a condition. -/
def conditionCode : Condition → Nat
  | .ignitionFailed => 0
  | .lampOut => 1
  | .thermalTrip => 2
  | .lifeLow => 3
  | .noSignal => 4
  | .geometryFault => 5
  | .transmitFailed => 6
  | .peerTableFull => 7
  | .storeFault => 8

/-- The category of a condition (11.1). -/
def conditionCategory : Condition → Category
  | .ignitionFailed => .lamp
  | .lampOut => .lamp
  | .thermalTrip => .lamp
  | .lifeLow => .lamp
  | .noSignal => .picture
  | .geometryFault => .picture
  | .transmitFailed => .line
  | .peerTableFull => .line
  | .storeFault => .store

/-- The notice mask bit of a category (1.10). -/
def categoryBit : Category → Nat
  | .lamp => 0
  | .picture => 1
  | .line => 2
  | .store => 3

/-- The code of a life state. -/
def lifeCode : LifeState → Nat
  | .noLife => 0
  | .lifeLow => 1
  | .lifeOut => 2
  | .expired => 3

/-- The code of a failure reason; 0 is no record. -/
def reasonCode : FailureReason → Nat
  | .queueFull => 1
  | .lineFault => 2

/-- The kind of a stored record in STORE FAULT's detail (R175). -/
def recordKind : RecordId → Nat
  | .settings => 0
  | .wear => 1
  | .aliasAt _ => 2
  | .entryAt _ => 3
  | .geometry => 4

/-- The slot or position number of a stored record in STORE FAULT's detail (R175). -/
def recordNumber : RecordId → Nat
  | .settings => 0
  | .wear => 0
  | .aliasAt i => i.val
  | .entryAt i => i.val
  | .geometry => 0

/-! ## Optional fields in a byte -/

/-- An optional number; absent is 0 (R94, R149). -/
def zeroAbsent (n : Option Nat) : Nat := n.getD 0

/-- The optional number of a byte that reads 0 when absent. -/
def ofZeroAbsent (n : Nat) : Option Nat := if n = 0 then none else some n

/-- An optional number; absent is 255 (1.10). -/
def topAbsent (n : Option Nat) : Nat := n.getD 255

/-! ## Labels (R37) -/

/-- A printable character, 0x20 to 0x7E. -/
def printable (b : Byte) : Bool := decide (0x20 ≤ b.toNat ∧ b.toNat ≤ 0x7E)

/-- A label length byte and the label bytes that follow it are of the right form (R37). -/
def labelForm : List Byte → Bool
  | len :: label => decide (len.toNat ≤ 8) && label.length == len.toNat && label.all printable
  | [] => false

/-- A label with its length byte. -/
def labelBytes (label : List Byte) : List Byte := byteOf label.length :: label

/-! ## Entries of the schedule table (R149) -/

/-- An entry whose fields lie in the ranges of R149. -/
def Entry.ok (e : Entry) : Bool :=
  !e.days.getLsbD 7 &&
    decide (e.start < e.stop ∧ e.stop ≤ 1440 ∧ e.group ≤ 7 ∧ 1 ≤ e.demand ∧ e.demand ≤ 8) &&
    (match e.source with
      | none => true
      | some n => decide (1 ≤ n ∧ n ≤ 63)) &&
    (match e.preset with
      | none => true
      | some n => decide (n ≤ 3)) &&
    (match e.level with
      | none => true
      | some n => decide (1 ≤ n ∧ n ≤ 7))

/-- The eleven bytes of an entry (1.10, ENTRY WRITE). -/
def entryBytes (e : Entry) : List Byte :=
  e.days :: bytesOf 2 e.start ++ bytesOf 2 e.stop ++
    [byteOf e.group, byteOf e.demand, byteOf (zeroAbsent e.source), byteOf (topAbsent e.preset),
      byteOf (topAbsent (e.mode.map modeCode)), byteOf (zeroAbsent e.level)]

/-- The entry of eleven bytes; none where R149 refuses them. -/
def parseEntry : List Byte → Option Entry
  | [days, start1, start0, stop1, stop0, group, demand, source, preset, mode, level] =>
    let e : Entry :=
      { days := days
        start := numberOf [start1, start0]
        stop := numberOf [stop1, stop0]
        group := group.toNat
        demand := demand.toNat
        source := ofZeroAbsent source.toNat
        preset := if preset = 255 then none else some preset.toNat
        mode := modeOfCode mode.toNat
        level := ofZeroAbsent level.toNat }
    if e.ok && (mode == 255 || (modeOfCode mode.toNat).isSome) then some e else none
  | _ => none

/-! ## The settings record (R181) -/

/-- A settings record whose fields lie in the ranges of R181. -/
def Settings.ok (x : Settings) : Bool :=
  decide
    (500 ≤ x.ratedHours ∧ x.ratedHours ≤ 20000 ∧ 10 ≤ x.marginHours ∧ x.marginHours ≤ 2000 ∧
      x.overrunHours ≤ 1000 ∧ 2 ≤ x.preheat ∧ x.preheat ≤ 15 ∧ 30 ≤ x.warmup ∧ x.warmup ≤ 120 ∧
      60 ≤ x.cooldown ∧ x.cooldown ≤ 300 ∧ 640 ≤ x.rasterWidth ∧ x.rasterWidth ≤ 4096 ∧
      480 ≤ x.rasterHeight ∧ x.rasterHeight ≤ 2400 ∧ x.keypadAuthority ≤ 3 ∧ x.noticeMask &&& 0xF0 = 0)

/-- The 19 bytes of a settings record (1.10). -/
def settingsBytes (x : Settings) : List Byte :=
  [x.groups, x.cueSend, x.follow] ++ bytesOf 2 x.ratedHours ++ bytesOf 2 x.marginHours ++ bytesOf 2 x.overrunHours ++
    [byteOf x.preheat, byteOf x.warmup] ++ bytesOf 2 x.cooldown ++ bytesOf 2 x.rasterWidth ++
    bytesOf 2 x.rasterHeight ++ [byteOf x.keypadAuthority, x.noticeMask]

/-- The settings record of 19 bytes; none where a field lies outside its range. Bits 4 to 7 of the notice mask are
ignored and held as 0 (R181, R182). -/
def parseSettings : List Byte → Option Settings
  | [groups, cueSend, follow, l1, l0, m1, m0, a1, a0, p, w, c1, c0, x1, x0, y1, y0, keypad, notice] =>
    let x : Settings :=
      { groups := groups
        cueSend := cueSend
        follow := follow
        ratedHours := numberOf [l1, l0]
        marginHours := numberOf [m1, m0]
        overrunHours := numberOf [a1, a0]
        preheat := p.toNat
        warmup := w.toNat
        cooldown := numberOf [c1, c0]
        rasterWidth := numberOf [x1, x0]
        rasterHeight := numberOf [y1, y0]
        keypadAuthority := keypad.toNat
        noticeMask := notice &&& 0x0F }
    if x.ok then some x else none
  | _ => none

/-! ## Keystone pairs (R114) -/

/-- A pair that meets the limits of R114. -/
def Keystone.ok (k : Keystone) : Bool :=
  decide (k.kv.natAbs ≤ 40 ∧ k.kh.natAbs ≤ 30 ∧ 3 * k.kv.natAbs + 4 * k.kh.natAbs ≤ 120)

/-- The two signed bytes of a pair, kv first. -/
def keystoneBytes (k : Keystone) : List Byte := [signedByteOf k.kv, signedByteOf k.kh]

/-- The pair of two signed bytes. -/
def keystoneOf (kv kh : Byte) : Keystone := { kv := kv.toInt, kh := kh.toInt }

/-! ## Alias entries (R93) -/

/-- An alias entry whose fields lie in the ranges of R113. -/
def AliasEntry.ok (e : AliasEntry) : Bool :=
  decide (1 ≤ e.source ∧ e.source ≤ 63 ∧ 1 ≤ e.port ∧ e.port ≤ 6) &&
    (match e.fallback with
      | none => true
      | some n => decide (1 ≤ n ∧ n ≤ 63 ∧ n ≠ e.source)) &&
    decide (e.label.length ≤ 8) && e.label.all printable

/-- The bytes of an alias entry (1.10, ALIAS WRITE). -/
def aliasBytes (e : AliasEntry) : List Byte :=
  [byteOf e.source, byteOf e.port, byteOf (zeroAbsent e.fallback)] ++ labelBytes e.label

/-- The alias entry of its bytes, the label being what follows its length byte. -/
def aliasOf : List Byte → Option AliasEntry
  | source :: port :: fallback :: _ :: label =>
    some { source := source.toNat, port := port.toNat, fallback := ofZeroAbsent fallback.toNat, label := label }
  | _ => none

/-! ## What each order kind requires -/

/-- The orders taken only as direct orders (R36). -/
def orderDirectOnly : OrderKind → Bool
  | .query => true
  | .setKeystone => true
  | .nudgeKeystone => true
  | .storePreset => true
  | .acknowledge => true
  | .wearReset => true
  | .settingsWrite => true
  | .restart => true
  | _ => false

/-- The minimum authority of an order (R39). -/
def orderMinAuthority : OrderKind → Nat
  | .light => 0
  | .rest => 0
  | .setMode => 2
  | .showPicture => 0
  | .blank => 0
  | .select => 0
  | .aliasWrite => 4
  | .aliasClear => 4
  | .setKeystone => 2
  | .nudgeKeystone => 2
  | .storePreset => 4
  | .recallPreset => 2
  | .lock => 2
  | .unlock => 2
  | .entryWrite => 4
  | .entryClear => 4
  | .timeSet => 4
  | .acknowledge => 2
  | .query => 0
  | .wearReset => 6
  | .settingsWrite => 6
  | .restart => 6

/-- The orders a lockout can stop (R39). -/
def orderLockable : OrderKind → Bool
  | .lock => false
  | .unlock => false
  | .acknowledge => false
  | .query => false
  | .wearReset => false
  | .settingsWrite => false
  | .restart => false
  | _ => true

/-- The form of an order's arguments is right (R37). -/
def orderFormOk (kind : OrderKind) (args : List Byte) : Bool :=
  match kind with
  | .light => args.length == 0
  | .rest => args.length == 0
  | .showPicture => args.length == 0
  | .blank => args.length == 0
  | .restart => args.length == 0
  | .setMode => args.length == 1
  | .select => args.length == 1
  | .aliasClear => args.length == 1
  | .storePreset => args.length == 1
  | .recallPreset => args.length == 1
  | .entryClear => args.length == 1
  | .setKeystone => args.length == 2
  | .nudgeKeystone => args.length == 2
  | .unlock => args.length == 2
  | .acknowledge => args.length == 2
  | .query => args.length == 2
  | .lock => args.length == 3
  | .timeSet => args.length == 4
  | .aliasWrite => decide (4 ≤ args.length) && labelForm (args.drop 3)
  | .wearReset => labelForm args
  | .entryWrite => args.length == 12
  | .settingsWrite => args.length == 19

/-- A hall source number in range (R98). -/
def sourceInRange (n : Byte) : Bool := decide (1 ≤ n.toNat ∧ n.toNat ≤ 63)

/-- The day, minute and second of a clock setting are in range (R144, R145). -/
def timeInRange (day minute second : Nat) : Bool := decide (day ≤ 6 ∧ minute ≤ 1439 ∧ second ≤ 59)

/-- Every argument value of a well-formed order lies in a range its owner does not refuse (R38). -/
def orderRangeOk (kind : OrderKind) (args : List Byte) : Bool :=
  match kind, args with
  | .setMode, [mode] => decide (mode.toNat ≤ 2)
  | .select, [source] => sourceInRange source
  | .aliasClear, [source] => sourceInRange source
  | .aliasWrite, source :: port :: fallback :: _ =>
    sourceInRange source && decide (1 ≤ port.toNat ∧ port.toNat ≤ 6 ∧ fallback.toNat ≤ 63)
  | .nudgeKeystone, [axis, step] => decide (axis.toNat ≤ 1 ∧ -16 ≤ step.toInt ∧ step.toInt ≤ 16)
  | .storePreset, [slot] => decide (slot.toNat ≤ 3)
  | .recallPreset, [slot] => decide (slot.toNat ≤ 3)
  | .lock, [level, d1, d0] => decide (1 ≤ level.toNat ∧ level.toNat ≤ 7 ∧ numberOf [d1, d0] ≤ 720)
  | .unlock, [level, _] => decide (level.toNat ≤ 7)
  | .entryWrite, slot :: entry => decide (slot.toNat ≤ 31) && (parseEntry entry).isSome
  | .entryClear, [slot] => decide (slot.toNat ≤ 31)
  | .timeSet, [day, m1, m0, second] => timeInRange day.toNat (numberOf [m1, m0]) second.toNat
  | .query, [record, _] => decide (record.toNat ≤ 10)
  | .settingsWrite, record => (parseSettings record).isSome
  | _, _ => true

/-! ## Stored records (R177) -/

/-- The check byte over a record's content bytes (R177). -/
def recordCheck (content : List Byte) : Byte :=
  byteOf (165 + (content.map BitVec.toNat).sum)

/-- A record's bytes: its content, then its check byte. -/
def withCheck (content : List Byte) : List Byte := content ++ [recordCheck content]

/-- The content of a record whose check byte passes (R177). -/
def checkedContent (bytes : List Byte) : Option (List Byte) :=
  match bytes.getLast? with
  | none => none
  | some check => if check = recordCheck bytes.dropLast then some bytes.dropLast else none

/-- The content bytes of the wear record. -/
def wearContent (w : WearRecord) : List Byte :=
  bytesOf 4 w.equivalent ++ [byteOf w.residue] ++ bytesOf 4 w.litSeconds ++ bytesOf 4 w.strikes ++ labelBytes w.label

/-- The wear record of its content bytes; none where R89 treats it as failing its check. -/
def parseWear : List Byte → Option WearRecord
  | e3 :: e2 :: e1 :: e0 :: residue :: l3 :: l2 :: l1 :: l0 :: s3 :: s2 :: s1 :: s0 :: label =>
    if labelForm label && decide (residue.toNat ≤ 15) then
      some
        { equivalent := numberOf [e3, e2, e1, e0]
          residue := residue.toNat
          litSeconds := numberOf [l3, l2, l1, l0]
          strikes := numberOf [s3, s2, s1, s0]
          label := label.tail }
    else none
  | _ => none

/-- The content bytes of an alias position: the filled marker, then the entry. -/
def aliasContent : Option AliasEntry → List Byte
  | none => [0]
  | some e => 1 :: aliasBytes e

/-- The alias position of its content bytes; none where R113 treats it as failing its check. -/
def parseAlias : List Byte → Option (Option AliasEntry)
  | marker :: rest =>
    if marker = 0 then (if rest = [] then some none else none)
    else if marker = 1 && decide (4 ≤ rest.length) && labelForm (rest.drop 3) then
      match aliasOf rest with
      | some e => if e.ok then some (some e) else none
      | none => none
    else none
  | [] => none

/-- The content bytes of a schedule slot: the filled marker, then the entry. -/
def slotContent : Option Entry → List Byte
  | none => [0]
  | some e => 1 :: entryBytes e

/-- The schedule slot of its content bytes; none where R151 treats it as failing its check. -/
def parseSlot : List Byte → Option (Option Entry)
  | marker :: rest =>
    if marker = 0 then (if rest = [] then some none else none)
    else if marker = 1 then (parseEntry rest).map some
    else none
  | [] => none

/-- The content bytes of one preset slot. -/
def presetContent : Option Keystone → List Byte
  | none => [0]
  | some k => 1 :: keystoneBytes k

/-- The content bytes of the geometry record. -/
def geometryContent (current : Keystone) (presets : Vector (Option Keystone) 4) : List Byte :=
  keystoneBytes current ++ presets.toList.flatMap presetContent

/-- One preset slot at the head of some content bytes, and the bytes after it. -/
def parsePreset : List Byte → Option (Option Keystone × List Byte)
  | marker :: rest =>
    if marker = 0 then some (none, rest)
    else if marker = 1 then
      match rest with
      | kv :: kh :: more => if (keystoneOf kv kh).ok then some (some (keystoneOf kv kh), more) else none
      | _ => none
    else none
  | [] => none

/-- The given number of preset slots at the head of some content bytes, and the bytes after them. -/
def parsePresets : Nat → List Byte → Option (List (Option Keystone) × List Byte)
  | 0, bytes => some ([], bytes)
  | n + 1, bytes =>
    match parsePreset bytes with
    | none => none
    | some (slot, rest) =>
      match parsePresets n rest with
      | none => none
      | some (slots, more) => some (slot :: slots, more)

/-- The geometry record of its content bytes; none where R127 treats it as failing its check. -/
def parseGeometry : List Byte → Option (Keystone × Vector (Option Keystone) 4)
  | kv :: kh :: rest =>
    if (keystoneOf kv kh).ok then
      match parsePresets 4 rest with
      | some ([a, b, c, d], []) => some (keystoneOf kv kh, #v[a, b, c, d])
      | _ => none
    else none
  | _ => none

end Sys2Proof.Machine
end

