-- ==== Sys2Proof/Machine/Flags.lean ====
section
/-! DEFINITION. What the manual derives from the state and the part holds nowhere else: latched bits, life state, wear
key, served mode, effective level, the picture, the port commands, the indicator, ages, and the beacon as it would now
be composed (log 14). -/

namespace Sys2Proof.Machine

/-! ## Conditions -/

/-- The condition is latched (R174). -/
def State.latched (s : State) (c : Condition) : Bool := s.conditions.getLsbD (conditionCode c)

/-- The bit of one condition. -/
def conditionBit (c : Condition) : BitVec 9 := 1#9 <<< conditionCode c

/-- The notice mask of the settings image in effect names the condition's category (R175). -/
def State.noticeWanted (s : State) (c : Condition) : Bool :=
  s.store.settings.noticeMask.getLsbD (categoryBit (conditionCategory c))

/-- One of the three lamp conditions is latched (R59, R160). -/
def State.lampFaulted (s : State) : Bool :=
  s.latched .ignitionFailed || s.latched .thermalTrip || s.latched .lampOut

/-! ## Wear -/

/-- The life limit, in equivalent seconds (R76). -/
def Settings.lifeLimit (x : Settings) : Nat := x.ratedHours * 3600

/-- The expiry limit, in equivalent seconds (R76). -/
def Settings.expiryLimit (x : Settings) : Nat := (x.ratedHours + x.overrunHours) * 3600

/-- The margin, in equivalent seconds (R76). -/
def Settings.margin (x : Settings) : Nat := x.marginHours * 3600

/-- The life limit minus E is below the margin, which is what latches LIFE LOW (R83, R89). -/
def withinMargin (x : Settings) (equivalent : Nat) : Bool :=
  decide (x.lifeLimit < equivalent + x.margin)

/-- The life state of a wear E under the given settings (R82). With a margin at or above the life limit every E below the
life limit is LIFE LOW, from E = 0 on (R76, R86): where the margin equals the limit, R82's table gives none at E = 0, and
the model follows R76 and R86 (log 27). -/
def lifeStateOf (x : Settings) (equivalent : Nat) : LifeState :=
  if x.expiryLimit ≤ equivalent then .expired
  else if x.lifeLimit ≤ equivalent then .lifeOut
  else if x.lifeLimit ≤ x.margin ∨ withinMargin x equivalent = true then .lifeLow
  else .noLife

/-- The life state (R82). -/
def State.life (s : State) : LifeState := lifeStateOf s.store.settings s.wear.record.equivalent

/-- The wear key: remaining rated life in tenths of hours (R85). -/
def State.wearKey (s : State) : Nat := (s.store.settings.lifeLimit - s.wear.record.equivalent) / 360

/-! ## Lamp -/

/-- The lamp is on or coming on: PREHEAT, IGNITE, WARMUP or LIT (R163). -/
def lampOn : LampState → Bool
  | .preheat => true
  | .ignite => true
  | .warmup => true
  | .lit => true
  | .dark => false
  | .cooldown => false

/-- The arc burns: WARMUP or LIT (R57, R72). -/
def lampBurning : LampState → Bool
  | .warmup => true
  | .lit => true
  | _ => false

/-- The hot flag (R69). -/
def State.hot (s : State) : Bool :=
  match s.lamp.housing with
  | none => false
  | some t => decide (Config.hotAt ≤ t)

/-- The served mode (R68). -/
def State.served (s : State) : PowerMode :=
  if s.lamp.requested = .full ∧ (s.hot = true ∨ s.life ≠ .noLife) then .normal else s.lamp.requested

/-- The bar on strikes (R59). -/
def State.barred (s : State) : Bool := s.lampFaulted || s.life == .expired

/-- The command standing at the ballast port (R49). -/
def State.ballast (s : State) : Ballast :=
  match s.lamp.state with
  | .dark => .off
  | .preheat => .heat
  | .ignite => if s.lamp.inGap then .heat else .ignitePulse
  | .warmup => .run .normal
  | .lit => .run s.served
  | .cooldown => .off

/-- The command standing at the fan port (R49, R69). -/
def State.fans (s : State) : Fans :=
  match s.lamp.state with
  | .dark => .off
  | .preheat => .high
  | .ignite => .high
  | .warmup => if s.hot then .high else .low
  | .lit => if s.hot then .high else .low
  | .cooldown => .high

/-! ## Lockout -/

/-- The level of the top entry of the lock stack, 0 when it is empty (R130). -/
def topLevel (stack : List LockEntry) : Nat :=
  match stack.getLast? with
  | none => 0
  | some e => e.level

/-- The effective lockout level (R130). -/
def State.level (s : State) : Nat := max (topLevel s.lockout.stack) s.lockout.floor

/-- The judgement of R131: none is a pass. -/
def State.lockoutCheck (s : State) (authority minimum : Nat) (lockable : Bool) : Option Result :=
  if authority < minimum then some .authority
  else if lockable && decide (authority ≤ s.level) then some .locked
  else none

/-! ## Picture -/

/-- The picture is shown: lamp LIT, router SETTLED, picture-wanted flag set (R107). -/
def State.pictureShown (s : State) : Bool :=
  s.lamp.state == .lit && s.router.selection == .settled && s.router.wanted

/-- The output command standing at the switcher (R107). -/
def State.switcherOutput (s : State) : SwitcherOutput := if s.pictureShown then .showPicture else .mute

/-- The input command standing at the switcher (R97). -/
def State.switcherInput (s : State) : SwitcherInput :=
  match s.router.selection with
  | .noSource => .park
  | .switching => match s.router.inFlightPort with
    | some p => .switchTo p
    | none => .park
  | .settled => match s.router.port with
    | some p => .switchTo p
    | none => .park
  | .searching => match s.router.port with
    | some p => .switchTo p
    | none => .park

/-- The view holds signal present on the port (chapter Sources and picture output). -/
def Router.signalOn (r : Router) (port : Nat) : Bool :=
  decide (1 ≤ port) && r.signal.toList.getD (port - 1) false

/-- The alias entry of a hall source number (R93, R96). -/
def Router.lookup (r : Router) (source : Nat) : Option AliasEntry :=
  (r.table.toList.filterMap id).find? fun e => e.source == source

/-- The hall source shown in the beacon (R21). -/
def State.sourceShown (s : State) : Nat :=
  if s.router.selection = .settled then s.router.current.getD 0 else 0

/-! ## Other views -/

/-- The handoff state is BUSY (7.3). -/
def State.handoffBusy (s : State) : Bool := s.geometry.inFlight.isSome

/-- The local indicator's showing (R48, R8). -/
def State.indicator (s : State) : Indicator :=
  if s.refusedTimer.isSome then .refused
  else if s.line.state = .clash then .clash
  else .blank

/-- The station is a member of the group (R35). -/
def Settings.member (x : Settings) (group : Nat) : Bool := x.groups.getLsbD group

/-- The age of a peer record in whole seconds, 0 to 6 (2.3, R31; log 23). -/
def State.ageOf (s : State) (r : PeerRecord) : Nat := min ((s.now - r.heardAt) / 1000) 6

/-- A running timer has come to its moment. -/
def runsOut (s : State) (timer : Option Nat) : Bool :=
  match timer with
  | some due => decide (due ≤ s.now)
  | none => false

/-! ## The beacon (R21, R22) -/

/-- The condition summary (R22). -/
def State.summary (s : State) : BitVec 16 :=
  s.conditions.setWidth 16 |||
    (if s.store.settings.lifeLimit ≤ s.wear.record.equivalent then 0x0200#16 else 0#16) |||
    (if s.store.settings.expiryLimit ≤ s.wear.record.equivalent then 0x0400#16 else 0#16)

/-- The beacon as it would now be composed (R21). -/
def State.beacon (s : State) : Beacon :=
  { lamp := s.lamp.state
    mode := s.served
    cause := s.lamp.cause
    offer := s.duty.offer
    declined := s.duty.declined
    shown := s.pictureShown
    clockValid := s.schedule.valid
    wearKey := s.wearKey
    source := s.sourceShown
    level := s.level
    summary := s.summary
    membership := s.store.settings.groups }

/-- The flags byte of a beacon (R22). -/
def beaconFlags (b : Beacon) : Byte :=
  byteOf ((if b.declined then 1 else 0) + (if b.shown then 2 else 0) + (if b.clockValid then 4 else 0))

/-- The 14 payload bytes of a beacon (1.10). -/
def beaconBytes (b : Beacon) : List Byte :=
  [1, byteOf (lampCode b.lamp), byteOf (modeCode b.mode), byteOf (causeCode b.cause), byteOf (topAbsent b.offer),
    beaconFlags b] ++ bytesOf 3 b.wearKey ++ [byteOf b.source, byteOf b.level] ++ bytesOf 2 b.summary.toNat ++
    [b.membership]

/-- The beacon of a projector's 14 payload bytes; none where R27 discards it. The ignored bits are held as 0. -/
def parseBeacon : List Byte → Option Beacon
  | [role, lamp, mode, cause, offer, flags, k2, k1, k0, source, level, c1, c0, membership] =>
    match lampOfCode lamp.toNat, modeOfCode mode.toNat, causeOfCode cause.toNat with
    | some lamp, some mode, some cause =>
      if role = 1 ∧ (offer.toNat ≤ 7 ∨ offer = 255) ∧ numberOf [k2, k1, k0] ≤ 200000 ∧ source.toNat ≤ 63 ∧
          level.toNat ≤ 7 then
        some
          { lamp := lamp
            mode := mode
            cause := cause
            offer := if offer = 255 then none else some offer.toNat
            declined := flags.getLsbD 0
            shown := flags.getLsbD 1
            clockValid := flags.getLsbD 2
            wearKey := numberOf [k2, k1, k0]
            source := source.toNat
            level := level.toNat
            summary := (c1 ++ c0) &&& 0x07FF#16
            membership := membership }
      else none
    | _, _, _ => none
  | _ => none

/-- The 14 bytes of the beacon as it would now be composed (R24). -/
def State.beaconNow (s : State) : List Byte := beaconBytes s.beacon

end Sys2Proof.Machine
end

