-- ==== Sys2Proof/Machine/Ops.lean ====
section
/-! DEFINITION. The operations every block shares: offering a frame to the transmit queue and the failure log (R10 to
R12, R16), latching a condition and its NOTICE (R174, R175), offering the station's beacon (R23, R24), entering CLASH
(R8), and marking a record for write-back and writing it (R178). -/

namespace Sys2Proof.Machine

/-! ## The frames the part sends (R1, R4) -/

/-- The payload of a NOTICE: condition code, then the two bytes of detail (R175). -/
def noticePayload (c : Condition) (detail : Nat) : List Byte :=
  byteOf (conditionCode c) :: bytesOf 2 detail

/-- The NOTICE of a condition, at class 0 for THERMAL TRIP and class 1 otherwise (R4, R175). -/
def noticeFrame (s : State) (c : Condition) (detail : Nat) : Frame :=
  { cls := if c = .thermalTrip then 0 else 1
    source := s.line.address
    dest := destAll
    kind := .notice
    authority := 0
    payload := noticePayload c detail }

/-- The ANSWER to an order (R4, R41). -/
def answerFrame (s : State) (receiver : BitVec 5) (code tag : Byte) (result : Result) (data : List Byte) : Frame :=
  { cls := 1
    source := s.line.address
    dest := destStation receiver
    kind := .answer
    authority := 0
    payload := code :: tag :: byteOf (resultCode result) :: data }

/-- The CUE of a group and a hall source number, at the causing order's authority (R4, R109). -/
def cueFrame (s : State) (authority group source : Nat) : Frame :=
  { cls := 1
    source := s.line.address
    dest := destAll
    kind := .cue
    authority := BitVec.ofNat 3 authority
    payload := [byteOf group, byteOf source] }

/-- The CLOCK frame of a minute boundary, whose second is 0 (R4, R147). -/
def clockFrame (s : State) (day minute : Nat) : Frame :=
  { cls := 2
    source := s.line.address
    dest := destAll
    kind := .clock
    authority := 0
    payload := byteOf day :: bytesOf 2 minute ++ [0] }

/-- A BEACON of the given payload (R4, R21). -/
def beaconFrame (s : State) (payload : List Byte) : Frame :=
  { cls := 3
    source := s.line.address
    dest := destAll
    kind := .beacon
    authority := 0
    payload := payload }

/-! ## The transmit queue and the failure log -/

/-- The state with frame `f` at the back of the transmit queue, attempt count 0 (R10). -/
def joinQueue (f : Frame) (forRestart : Bool) (s : State) : State :=
  s.withLine { s.line with queue := s.line.queue ++ [{ frame := f, attempts := 0, forRestart := forRestart }] }

/-- The queue holds fewer than 8 frames (R10). -/
def State.queueHasRoom (s : State) : Bool := decide (s.line.queue.length < Config.queueSize)

/-- The record of a failure (1.7). -/
def failureOf (reason : FailureReason) (f : Frame) : FailureRecord :=
  { reason := reason
    kind := f.kind
    dest := f.dest
    codeTag := match f.kind, f.payload with
      | .answer, code :: tag :: _ => some (code, tag)
      | _, _ => none }

/-- TRANSMIT FAILED's detail: the failure reason code, then the frame kind code (R175). -/
def failureDetail (r : FailureRecord) : Nat := reasonCode r.reason * 256 + r.kind.code.toNat

/-- The NOTICE of TRANSMIT FAILED is offered; a full queue refuses it, and the log, which is then held, takes the
overflow flag (R16). -/
def offerFailureNotice (r : FailureRecord) (s : State) : State :=
  if s.line.state = .active then
    if s.queueHasRoom then joinQueue (noticeFrame s .transmitFailed (failureDetail r)) false s
    else s.withLine { s.line with overflow := true }
  else s

/-- A failure is recorded (R16): it fills the empty log and latches TRANSMIT FAILED, or sets the overflow flag. -/
def recordFailure (r : FailureRecord) (s : State) : State :=
  match s.line.failure with
  | some _ => s.withLine { s.line with overflow := true }
  | none =>
    let logged := s.withLine { s.line with failure := some r, overflow := false }
    if s.latched .transmitFailed then logged
    else
      let latched := logged.withConditions (s.conditions ||| conditionBit .transmitFailed)
      if s.noticeWanted .transmitFailed then offerFailureNotice r latched else latched

/-- A frame that is no BEACON is offered (R10): in ACTIVE it joins the queue or is recorded as QUEUE FULL; in LISTEN and
CLASH it is not admitted (R6, R8). -/
def offerMarked (f : Frame) (forRestart : Bool) (s : State) : State :=
  if s.line.state = .active then
    if s.queueHasRoom then joinQueue f forRestart s
    else recordFailure (failureOf .queueFull f) s
  else s

/-- A frame that is no BEACON is offered (R10). -/
def offerFrame (f : Frame) (s : State) : State := offerMarked f false s

/-- The place of the queue's BEACON. -/
def beaconPlace (queue : List QueuedFrame) : Option Nat :=
  queue.findIdx? fun q => q.frame.kind == .beacon

/-- The queued frame with its payload replaced (R11). -/
def rewritten (payload : List Byte) (q : QueuedFrame) : QueuedFrame :=
  { q with frame := { q.frame with payload := payload } }

/-- A BEACON is offered (R11, R12). -/
def offerBeacon (payload : List Byte) (s : State) : State :=
  if s.line.state = .active then
    match beaconPlace s.line.queue with
    | some i =>
      if s.line.attempt = some i then s.withLine { s.line with heldUpdate := some payload }
      else s.withLine { s.line with queue := s.line.queue.modify i (rewritten payload) }
    | none => if s.queueHasRoom then joinQueue (beaconFrame s payload) false s else s
  else s

/-- The station's beacon is composed and offered, and recorded as the last offered image (R23 to R25). -/
def offerOwnBeacon (s : State) : State :=
  offerBeacon s.beaconNow (s.withPeers { s.peers with image := some s.beaconNow })

/-- Entry into CLASH (R8, R25); a clash in CLASH changes nothing (R7). -/
def enterClash (s : State) : State :=
  if s.line.state = .clash then s
  else
    (s.withLine { s.line with state := .clash, queue := [], attempt := none, heldUpdate := none }).withPeers
      { s.peers with beaconTimer := none }

/-! ## Conditions and notices -/

/-- A condition is latched with a detail (R174, R175). -/
def latch (c : Condition) (detail : Nat) (s : State) : State :=
  if s.latched c then s
  else
    let t := s.withConditions (s.conditions ||| conditionBit c)
    if s.noticeWanted c then offerFrame (noticeFrame s c detail) t else t

/-- A condition is cleared (R176, R86); with TRANSMIT FAILED the failure log is emptied (R17). -/
def clearCondition (c : Condition) (s : State) : State :=
  let t := s.withConditions (s.conditions &&& ~~~ conditionBit c)
  if c = .transmitFailed ∧ s.latched c = true then t.withLine { t.line with failure := none, overflow := false } else t

/-! ## The write-back list (R178) -/

/-- A record is marked for write-back (R178). -/
def mark (r : RecordId) (s : State) : State :=
  if r ∈ s.store.list then s else s.withStore { s.store with list := s.store.list ++ [r] }

/-- The content of a record as its owner now holds it (R177). -/
def recordContent (s : State) : RecordId → List Byte
  | .settings => settingsBytes s.store.toStore
  | .wear => wearContent s.wear.record
  | .aliasAt i => aliasContent s.router.table[i]
  | .entryAt i => slotContent s.schedule.table[i]
  | .geometry => geometryContent s.geometry.current s.geometry.presets

/-- The load at start has completed (R180). -/
def State.loaded (s : State) : Bool := decide (Config.recordCount ≤ s.store.loadIndex)

/-- The Store takes the head of the list and commands its WRITE, when no write is in flight and the load has
completed (R178). -/
def beginWrite (s : State) : State :=
  match s.store.inFlight, s.store.list with
  | none, r :: rest =>
    if s.loaded then
      s.withStore
        { s.store with
          list := rest
          inFlight := some
            { record := r
              bytes := withCheck (recordContent s r)
              due := s.now + Config.memoryTime } }
    else s
  | _, _ => s

end Sys2Proof.Machine
end

