-- ==== Sys2Proof/Machine/Geometry.lean ====
section
/-! DEFINITION. The Geometry Unit: clamping, corner computation, the handoff to the warp engine and the presets (chapter
Keystone geometry). -/

namespace Sys2Proof.Machine

/-! ## Clamping -/

/-- A value limited to a magnitude, keeping its sign (R115, R116). -/
def limited (magnitude : Nat) (x : Int) : Int :=
  if (magnitude : Int) < x then magnitude else if x < -(magnitude : Int) then -(magnitude : Int) else x

/-- A pair with its kv limited to ±40 and its kh to ±30, and its kh then reduced to the combined limit (R115). -/
def clampPair (k : Keystone) : Keystone :=
  let kv := limited 40 k.kv
  let kh := limited 30 k.kh
  if 120 < 3 * kv.natAbs + 4 * kh.natAbs then { kv := kv, kh := limited ((120 - 3 * kv.natAbs) / 4) kh }
  else { kv := kv, kh := kh }

/-- A kv limited to its range and to the combined limit, kh held (R116). -/
def clampVertical (k : Keystone) : Keystone :=
  let kv := limited 40 k.kv
  if 120 < 3 * kv.natAbs + 4 * k.kh.natAbs then { k with kv := limited ((120 - 4 * k.kh.natAbs) / 3) kv }
  else { k with kv := kv }

/-- A kh limited to its range and to the combined limit, kv held (R116). -/
def clampHorizontal (k : Keystone) : Keystone :=
  let kh := limited 30 k.kh
  if 120 < 3 * k.kv.natAbs + 4 * kh.natAbs then { k with kh := limited ((120 - 3 * k.kv.natAbs) / 4) kh }
  else { k with kh := kh }

/-! ## Corners (R117, R118) -/

/-- The top inset. -/
def insetTop (width : Nat) (k : Keystone) : Nat := width * k.kv.toNat / 400
/-- The bottom inset. -/
def insetBottom (width : Nat) (k : Keystone) : Nat := width * (-k.kv).toNat / 400
/-- The right-edge inset. -/
def insetRight (height : Nat) (k : Keystone) : Nat := height * k.kh.toNat / 300
/-- The left-edge inset. -/
def insetLeft (height : Nat) (k : Keystone) : Nat := height * (-k.kh).toNat / 300

/-- The corner set of a pair on a raster (R117). -/
def cornersOf (width height : Nat) (k : Keystone) : CornerSet :=
  { topLeft := (insetTop width k, insetLeft height k)
    topRight := (width - 1 - insetTop width k, insetRight height k)
    bottomRight := (width - 1 - insetBottom width k, height - 1 - insetRight height k)
    bottomLeft := (insetBottom width k, height - 1 - insetLeft height k)
    pair := k }

/-- The retained width, per mille (R118). -/
def retainedWidth (width : Nat) (k : Keystone) : Nat :=
  1000 * (width - 2 * max (insetTop width k) (insetBottom width k)) / width

/-- The retained height, per mille (R118). -/
def retainedHeight (height : Nat) (k : Keystone) : Nat :=
  1000 * (height - 2 * max (insetRight height k) (insetLeft height k)) / height

/-! ## Handoff -/

/-- A corner set is sent with the next handoff number (R119). -/
def sendCorners (c : CornerSet) (s : State) : State :=
  let number := (s.geometry.lastNumber + 1) % 256
  s.withGeometry
    { s.geometry with
      inFlight := some { number := number, corners := c, sends := 1 }
      timer := some (s.now + Config.handoffTime)
      lastNumber := number }

/-- The corner set of the current keystone is produced: sent when IDLE, pending when BUSY (R119). -/
def produceCorners (s : State) : State :=
  let c := cornersOf s.store.settings.rasterWidth s.store.settings.rasterHeight s.geometry.current
  if s.handoffBusy then s.withGeometry { s.geometry with pendingSet := some c } else sendCorners c s

/-- A pair becomes the current keystone: its corner set is produced and the geometry record marked (R114, R126). -/
def makeCurrent (k : Keystone) (s : State) : State :=
  mark .geometry (produceCorners (s.withGeometry { s.geometry with current := k }))

/-- A handoff ends: a pending set is sent, or the state becomes IDLE (R120, R121). -/
def endHandoff (s : State) : State :=
  match s.geometry.pendingSet with
  | some c => sendCorners c (s.withGeometry { s.geometry with pendingSet := none })
  | none => s.withGeometry { s.geometry with inFlight := none, timer := none }

/-- An APPLIED report (R120). -/
def takeApplied (number : Nat) (s : State) : State :=
  match s.geometry.inFlight with
  | some f => if f.number = number then endHandoff s else s
  | none => s

/-- GEOMETRY FAULT's detail: the pair as signed bytes, kv first (R122). -/
def pairDetail (k : Keystone) : Nat := numberOf (keystoneBytes k)

/-- A silence of the engine on the set in flight (R121, R122). -/
def takeSilence (f : FlightSet) (s : State) : State :=
  if f.sends = 1 then
    s.withGeometry
      { s.geometry with inFlight := some { f with sends := 2 }, timer := some (s.now + Config.handoffTime) }
  else endHandoff (latch .geometryFault (pairDetail f.corners.pair) s)

/-- The handoff timer runs out (R121), not before its moment: an APPLIED report taken first has stopped it (log 3). -/
def handoffEnds (s : State) : State :=
  match s.geometry.inFlight with
  | some f => if runsOut s s.geometry.timer then takeSilence f s else s
  | none => s

/-! ## Orders -/

/-- A SET KEYSTONE (R115). -/
def takeSetKeystone (k : Keystone) (s : State) : State × Result :=
  (makeCurrent (clampPair k) s, if clampPair k = k then .done else .adjusted)

/-- A NUDGE KEYSTONE of the vertical axis (R116). -/
def nudgeVertical (step : Int) (s : State) : State × Result :=
  let wanted : Keystone := { s.geometry.current with kv := s.geometry.current.kv + step }
  (makeCurrent (clampVertical wanted) s, if clampVertical wanted = wanted then .done else .adjusted)

/-- A NUDGE KEYSTONE of the horizontal axis (R116). -/
def nudgeHorizontal (step : Int) (s : State) : State × Result :=
  let wanted : Keystone := { s.geometry.current with kh := s.geometry.current.kh + step }
  (makeCurrent (clampHorizontal wanted) s, if clampHorizontal wanted = wanted then .done else .adjusted)

/-- A STORE PRESET (R123). -/
def takeStorePreset (slot : Nat) (s : State) : State × Result :=
  (mark .geometry
    (s.withGeometry { s.geometry with presets := s.geometry.presets.setIfInBounds slot (some s.geometry.current) }),
    .done)

/-- The pair held in a preset slot (R123). -/
def Geometry.preset (g : Geometry) (slot : Nat) : Option Keystone := g.presets.toList.getD slot none

/-- A RECALL PRESET, from an order or the schedule (R124, R125). -/
def takeRecallPreset (slot : Nat) (s : State) : State × Result :=
  match s.geometry.preset slot with
  | some k => (makeCurrent k s, .done)
  | none => (s, .state)

end Sys2Proof.Machine
end

