-- ==== Sys2Proof/Machine/Lamp.lean ====
section
/-! DEFINITION. The Lamp Sequencer and the Wear Counter: the stages of a strike, cool-down, the charges, and what LIGHT,
REST and SET MODE do (chapters Lamp sequencing and Lamp wear). -/

namespace Sys2Proof.Machine

/-! ## Cool-down -/

/-- The Wear Counter takes an EXTINCTION report (R79, R88). -/
def extinction (s : State) : State :=
  mark .wear (s.withWear { s.wear with sinceExtinction := some 0 })

/-- Entry into COOLDOWN (R57); from WARMUP or LIT it is an extinction. -/
def enterCooldown (s : State) : State :=
  let t := if lampBurning s.lamp.state then extinction s else s
  t.withLamp
    { s.lamp with
      state := .cooldown
      timer := some (s.now + s.store.settings.cooldown * 1000)
      inGap := false
      attempts := 0
      heldStrike := none
      cause := .noCause }

/-! ## Wear -/

/-- A counter raised by `n`, kept at its maximum (R78). -/
def raised (counter n : Nat) : Nat := min (counter + n) Config.counterMax

/-- The remaining whole hours of rated life (R83). -/
def remainingHours (s : State) : Nat := (s.store.settings.lifeLimit - s.wear.record.equivalent) / 3600

/-- Expiry takes a lamp that is on into COOLDOWN (R73). -/
def restExpired (s : State) : State :=
  if s.life = .expired ∧ lampOn s.lamp.state = true then enterCooldown s else s

/-- LIFE LOW is latched while the wear is within the margin (R83). -/
def judgeLifeLow (s : State) : State :=
  if withinMargin s.store.settings s.wear.record.equivalent then latch .lifeLow (remainingHours s) s else s

/-- What follows a lamp second or a charge: the life state, then LIFE LOW (R82, R83). -/
def afterCharge (s : State) : State := judgeLifeLow (restExpired s)

/-- The weight of a lamp second, in sixteenths (R77): the weight state is LIT with a mode, or WARMUP. -/
def secondWeight (litAt : Option PowerMode) (hot : Bool) : Nat :=
  (match litAt with
    | none => 16
    | some .eco => 9
    | some .normal => 16
    | some .full => 22) + (if hot then 4 else 0)

/-- The weight state of the second that ends at a tick (R72). -/
def weightState (s : State) : Option PowerMode :=
  if s.lamp.tickLamp = .lit then some s.lamp.tickMode else none

/-- The wear record after a lamp second of weight `w` (R77, R78). -/
def recordSecond (w : Nat) (r : WearRecord) : WearRecord :=
  { r with
    equivalent := raised r.equivalent ((r.residue + w) / 16)
    residue := (r.residue + w) % 16
    litSeconds := raised r.litSeconds 1 }

/-- The lamp second carried lit seconds to a whole multiple of 360 (R78). -/
def reachesMark (before after : Nat) : Bool := before != after && after % Config.markEvery == 0

/-- A lamp second (R77, R78, R82, R83). -/
def lampSecond (s : State) : State :=
  let r := recordSecond (secondWeight (weightState s) s.lamp.tickHot) s.wear.record
  let t := s.withWear { s.wear with record := r }
  afterCharge (if reachesMark s.wear.record.litSeconds r.litSeconds then mark .wear t else t)

/-- The charge of an ignition (R80). -/
def strikeCharge (sinceExtinction : Option Nat) : Nat :=
  match sinceExtinction with
  | none => Config.warmCharge
  | some n => if Config.coldAfter ≤ n then Config.coldCharge else Config.warmCharge

/-- The Wear Counter takes an IGNITION report (R80). -/
def chargeIgnition (s : State) : State :=
  let r := s.wear.record
  afterCharge
    (s.withWear
      { s.wear with
        record :=
          { r with
            equivalent := raised r.equivalent (strikeCharge s.wear.sinceExtinction)
            strikes := raised r.strikes 1 } })

/-- The Wear Counter takes a FAILED ATTEMPT report (R81). -/
def chargeFailedAttempt (s : State) : State :=
  let r := s.wear.record
  afterCharge
    (s.withWear { s.wear with record := { r with equivalent := raised r.equivalent Config.failedCharge } })

/-- The count of seconds since extinction rises at a tick (R79). -/
def advanceExtinction (s : State) : State :=
  s.withWear { s.wear with sinceExtinction := s.wear.sinceExtinction.map fun n => raised n 1 }

/-! ## The strike -/

/-- A strike begins: the lamp enters PREHEAT with its lit cause (R51). -/
def enterPreheat (cause : LitCause) (s : State) : State :=
  s.withLamp
    { s.lamp with
      state := .preheat
      timer := some (s.now + s.store.settings.preheat * 1000)
      inGap := false
      attempts := 0
      heldStrike := none
      cause := cause }

/-- Ignition: the lamp enters WARMUP and IGNITION is reported (R53). -/
def ignite (s : State) : State :=
  chargeIgnition
    (s.withLamp
      { s.lamp with
        state := .warmup
        timer := some (s.now + s.store.settings.warmup * 1000)
        inGap := false
        attempts := 0 })

/-- An ignite attempt begins; with the sense present it succeeds at that moment (R52). -/
def beginAttempt (s : State) : State :=
  let t := s.withLamp
    { s.lamp with state := .ignite, timer := some (s.now + Config.attemptTime), inGap := false }
  if s.lamp.sense then ignite t else t

/-- The PREHEAT timer runs out (R52). -/
def preheatEnds (s : State) : State := if s.lamp.state = .preheat then beginAttempt s else s

/-- The gap between attempts runs out (R52). -/
def gapEnds (s : State) : State :=
  if s.lamp.state = .ignite ∧ s.lamp.inGap = true then beginAttempt s else s

/-- The third attempt has failed: IGNITION FAILED, then COOLDOWN (R54). -/
def strikeFails (s : State) : State := enterCooldown (latch .ignitionFailed Config.maxAttempts s)

/-- An attempt runs out without the sense (R54); a charge that expires the lamp ends the strike (R73; log 10). -/
def attemptEnds (s : State) : State :=
  if s.lamp.state = .ignite ∧ s.lamp.inGap = false then
    let t := chargeFailedAttempt (s.withLamp { s.lamp with attempts := s.lamp.attempts + 1 })
    if t.lamp.state = .ignite then
      if t.lamp.attempts < Config.maxAttempts then
        t.withLamp { t.lamp with inGap := true, timer := some (s.now + Config.gapTime) }
      else strikeFails t
    else t
  else s

/-- The lamp-on sense appears (R53; acted on in IGNITE alone, R52). -/
def senseAppears (s : State) : State :=
  let t := s.withLamp { s.lamp with sense := true }
  if s.lamp.state = .ignite then ignite t else t

/-- The lamp-on sense is lost (R56; acted on in WARMUP and LIT alone). -/
def senseLost (s : State) : State :=
  let t := s.withLamp { s.lamp with sense := false }
  if lampBurning s.lamp.state then enterCooldown (latch .lampOut (lampCode s.lamp.state) t) else t

/-- The WARMUP timer runs out (R55). -/
def warmupEnds (s : State) : State :=
  if s.lamp.state = .warmup then s.withLamp { s.lamp with state := .lit, timer := none } else s

/-- The COOLDOWN timer runs out (R58); it runs once the load at start has completed (R74). -/
def cooldownEnds (s : State) : State :=
  if s.lamp.state = .cooldown ∧ s.lamp.timer.isSome = true then
    match s.lamp.heldStrike with
    | some cause =>
      if s.barred then s.withLamp { s.lamp with state := .dark, timer := none, heldStrike := none }
      else enterPreheat cause s
    | none => s.withLamp { s.lamp with state := .dark, timer := none, heldStrike := none }
  else s

/-! ## LIGHT and REST (4.4), and the requests of Shared Duty (4.5) -/

/-- A LIGHT taken with DONE, STARTED or HELD clears the declined flag (R161). -/
def clearDeclined (s : State) : State := s.withDuty { s.duty with declined := false }

/-- A LIGHT of the given cause, ORDER or KEY (R60, R61). -/
def takeLight (cause : LitCause) (s : State) : State × Result :=
  match s.lamp.state with
  | .dark => if s.barred then (s, .state) else (clearDeclined (enterPreheat cause s), .started)
  | .cooldown =>
    if s.barred then (s, .state)
    else (clearDeclined (s.withLamp { s.lamp with heldStrike := some cause }), .held)
  | _ =>
    (clearDeclined
      (if s.lamp.cause = .schedule then s.withLamp { s.lamp with cause := cause } else s), .done)

/-- A REST (R62, R63). -/
def takeRest (s : State) : State × Result :=
  match s.lamp.state with
  | .dark => (s, .done)
  | .cooldown => (s.withLamp { s.lamp with heldStrike := none }, .done)
  | _ =>
    let t := enterCooldown s
    (if s.lamp.cause = .schedule then t.withDuty { t.duty with declined := true } else t, .done)

/-- A strike request from Shared Duty (R65). -/
def strikeRequest (s : State) : State :=
  if s.lamp.state = .dark ∧ s.barred = false then enterPreheat .schedule s else s

/-- A release from Shared Duty (R66). -/
def release (s : State) : State :=
  if lampOn s.lamp.state = true ∧ s.lamp.cause = .schedule then enterCooldown s else s

/-! ## Power mode and temperature -/

/-- The requested mode is set (R67). -/
def requestMode (mode : PowerMode) (s : State) : State := s.withLamp { s.lamp with requested := mode }

/-- A SET MODE (R67). -/
def takeSetMode (mode : PowerMode) (s : State) : State × Result :=
  let t := requestMode mode s
  (t, if t.served = mode then .done else .adjusted)

/-- A thermal trip (R70). -/
def thermalTrip (sample : Int) (s : State) : State :=
  if s.latched .thermalTrip then s
  else
    let t := latch .thermalTrip sample.toNat s
    if lampOn s.lamp.state then enterCooldown t
    else if s.lamp.state = .cooldown then t.withLamp { t.lamp with heldStrike := none }
    else t

/-- The housing sample of a tick replaces the one held, and its trip is judged (R69, R70). -/
def takeSample (sample : Int) (s : State) : State :=
  let t := s.withLamp { s.lamp with housing := some sample }
  if Config.tripAt ≤ sample then thermalTrip sample t else t

/-- The lamp state, served mode and hot flag that stand just after a tick are kept for the next lamp second (R72). -/
def keepTick (s : State) : State :=
  s.withLamp { s.lamp with tickLamp := s.lamp.state, tickMode := s.served, tickHot := s.hot }

end Sys2Proof.Machine
end

