-- ==== Sys2Proof/Machine/Router.lean ====
section
/-! DEFINITION. The Source Router: the alias table, selection and switching, signal loss and fallback, the
picture-wanted flag and cues (chapter Sources and picture output). -/

namespace Sys2Proof.Machine

/-! ## Switching -/

/-- The router with nothing selected and the switcher commanded PARK (R104). -/
def Router.parked (r : Router) : Router :=
  { r with
    selection := .noSource
    current := none
    pendingTarget := none
    inFlightPort := none
    port := none
    switchTimer := none
    searchTimer := none
    inputCommands := r.inputCommands + 1 }

/-- A switch to a hall source begins, the switcher commanded afresh (R99), with the given pending target. -/
def beginSwitch (source : Nat) (pendingTarget : Option Nat) (s : State) : State :=
  match s.router.lookup source with
  | some e =>
    s.withRouter
      { s.router with
        selection := .switching
        current := some source
        pendingTarget := pendingTarget
        inFlightPort := some e.port
        port := none
        switchTimer := some (s.now + Config.switchTime)
        searchTimer := none
        inputCommands := s.router.inputCommands + 1 }
  | none => s.withRouter s.router.parked

/-- The state becomes SEARCHING on the given port (R100 to R102). -/
def beginSearch (port : Option Nat) (s : State) : State :=
  s.withRouter
    { s.router with
      selection := .searching
      inFlightPort := none
      port := port
      switchTimer := none
      searchTimer := some (s.now + Config.searchTime) }

/-- The state becomes SETTLED on the given port (R100, R102). -/
def settleOn (port : Option Nat) (s : State) : State :=
  s.withRouter
    { s.router with selection := .settled, inFlightPort := none, port := port, switchTimer := none, searchTimer := none }

/-- A selection of a hall source (R98). -/
def takeSelect (source : Nat) (s : State) : State × Result :=
  match s.router.lookup source with
  | none => (s, .unknown)
  | some _ =>
    match s.router.selection with
    | .noSource => (beginSwitch source none s, .started)
    | .switching =>
      if s.router.current = some source then (s.withRouter { s.router with pendingTarget := none }, .started)
      else (s.withRouter { s.router with pendingTarget := some source }, .started)
    | .settled => if s.router.current = some source then (s, .done) else (beginSwitch source none s, .started)
    | .searching => (beginSwitch source none s, .started)

/-- A lock report (R100). -/
def switcherLocks (port : Nat) (s : State) : State :=
  if s.router.selection = .switching ∧ s.router.inFlightPort = some port then
    match s.router.pendingTarget with
    | some target => beginSwitch target none s
    | none => if s.router.signalOn port then settleOn (some port) s else beginSearch (some port) s
  else s

/-- The switch timer runs out (R101), not before its moment: a lock report taken first has stopped it (log 3). -/
def switchEnds (s : State) : State :=
  if s.router.selection = .switching ∧ runsOut s s.router.switchTimer = true then
    match s.router.pendingTarget with
    | some target => beginSwitch target none s
    | none => beginSearch s.router.inFlightPort s
  else s

/-- A report of signal presence (R102). -/
def takeSignal (port : Nat) (present : Bool) (s : State) : State :=
  if 1 ≤ port ∧ port ≤ 6 ∧ s.router.signalOn port ≠ present then
    let t := s.withRouter { s.router with signal := s.router.signal.setIfInBounds (port - 1) present }
    if s.router.port = some port then
      if s.router.selection = .settled ∧ present = false then beginSearch (some port) t
      else if s.router.selection = .searching ∧ present = true then settleOn (some port) t
      else t
    else t
  else s

/-- The fallback chain of a hall source, followed for the given number of hops (R103): the entry chosen. -/
def fallbackChain (r : Router) : Nat → Nat → Option Nat
  | 0, _ => none
  | hops + 1, source =>
    match r.lookup source with
    | none => none
    | some e =>
      match e.fallback with
      | none => none
      | some next =>
        match r.lookup next with
        | none => none
        | some f => if r.signalOn f.port then some next else fallbackChain r hops next

/-- NO SIGNAL's detail: the current hall source, then its port (R103). -/
def noSignalDetail (s : State) : Nat := s.router.current.getD 0 * 256 + s.router.port.getD 0

/-- The search timer runs out (R103), not before its moment: every loss in SETTLED starts it afresh (R102; log 3). -/
def searchEnds (s : State) : State :=
  if s.router.selection = .searching ∧ runsOut s s.router.searchTimer = true then
    let t := latch .noSignal (noSignalDetail s) s
    match fallbackChain s.router Config.fallbackHops (s.router.current.getD 0) with
    | some source => beginSwitch source none t
    | none => t.withRouter { t.router with searchTimer := some (s.now + Config.searchTime) }
  else s

/-! ## The alias table -/

/-- The position of the alias table that holds a hall source number (R93). -/
def Router.positionOf (r : Router) (source : Nat) : Option (Fin 16) :=
  (List.finRange 16).find? fun i =>
    match r.table[i] with
    | some e => e.source == source
    | none => false

/-- The lowest-numbered empty position of the alias table (R94). -/
def Router.emptyPosition (r : Router) : Option (Fin 16) :=
  (List.finRange 16).find? fun i => r.table[i].isNone

/-- Position `i` of the alias table holds `e`, and its record is marked (R93). -/
def putAlias (i : Fin 16) (e : Option AliasEntry) (s : State) : State :=
  mark (.aliasAt i) (s.withRouter { s.router with table := s.router.table.set i e })

/-- The effect of a replaced entry on the selection (R105). -/
def afterReplace (old new : AliasEntry) (s : State) : State :=
  if s.router.current = some new.source ∧ old.port ≠ new.port then
    match s.router.selection with
    | .noSource => s
    | .switching => beginSwitch new.source s.router.pendingTarget s
    | .settled => beginSwitch new.source none s
    | .searching => beginSwitch new.source none s
  else s

/-- An ALIAS WRITE (R94, R105). -/
def takeAliasWrite (e : AliasEntry) (s : State) : State × Result :=
  if e.fallback = some e.source then (s, .conflict)
  else
    match s.router.positionOf e.source with
    | some i =>
      match s.router.table[i] with
      | some old => (afterReplace old e (putAlias i (some e) s), .done)
      | none => (putAlias i (some e) s, .done)
    | none =>
      match s.router.emptyPosition with
      | some i => (putAlias i (some e) s, .done)
      | none => (s, .full)

/-- The effect of a cleared hall source number on the selection (R104). -/
def afterClear (source : Nat) (s : State) : State :=
  if s.router.current = some source then
    match s.router.selection, s.router.pendingTarget with
    | .switching, some target => beginSwitch target none s
    | .noSource, _ => s
    | _, _ => s.withRouter s.router.parked
  else if s.router.selection = .switching ∧ s.router.pendingTarget = some source then
    s.withRouter { s.router with pendingTarget := none }
  else s

/-- An ALIAS CLEAR (R95, R104). -/
def takeAliasClear (source : Nat) (s : State) : State × Result :=
  match s.router.positionOf source with
  | some i => (afterClear source (putAlias i none s), .done)
  | none => (s, .unknown)

/-! ## The picture and the keys -/

/-- A SHOW (R108). -/
def takeShow (s : State) : State × Result :=
  let t := s.withRouter { s.router with wanted := true }
  (t, if t.pictureShown then .done else .held)

/-- A BLANK (R108). -/
def takeBlank (s : State) : State × Result :=
  (s.withRouter { s.router with wanted := false }, .done)

/-- The hall source numbers whose port has signal present (R47). -/
def Router.withSignal (r : Router) : List Nat :=
  ((r.table.toList.filterMap id).filter fun e => r.signalOn e.port).map AliasEntry.source

/-- The reference point of the SOURCE key (R47); 0 stands below every number. -/
def Router.referencePoint (r : Router) : Nat :=
  match r.selection, r.pendingTarget with
  | .switching, some target => target
  | _, _ => r.current.getD 0

/-- The next hall source for the SOURCE key (R47): the lowest above the reference point, else the lowest of all. -/
def Router.nextSource (r : Router) : Option Nat :=
  match (r.withSignal.filter fun n => decide (r.referencePoint < n)).min? with
  | some n => some n
  | none => r.withSignal.min?

/-! ## Cues -/

/-- The groups in which a selection is announced, in ascending order (R109). -/
def cueGroups (x : Settings) : List Nat :=
  (List.range 8).filter fun g => x.cueSend.getLsbD g && x.groups.getLsbD g

/-- The CUE frames of a selection are offered (R109). -/
def offerCues (authority source : Nat) (s : State) : State :=
  (cueGroups s.store.settings).foldl (fun t g => offerFrame (cueFrame t authority g source) t) s

/-- A delivered CUE (R110). -/
def takeCue (authority group source : Nat) (s : State) : State :=
  if group ≤ 7 ∧ 1 ≤ source ∧ source ≤ 63 ∧ s.store.settings.follow.getLsbD group = true then
    match s.lockoutCheck authority (orderMinAuthority .select) (orderLockable .select) with
    | some _ => s
    | none => (takeSelect source s).1
  else s

end Sys2Proof.Machine
end

