-- ==== Sys2Proof/Machine/Memory.lean ====
section
/-! DEFINITION. The Store: the load at start, writes and their confirmation, the settings record and the pending restart
(11.2 to 11.6). The serial memory itself stands outside the part. -/

namespace Sys2Proof.Machine

/-! ## The load at start (R180) -/

/-- Every record in the sequence in which the load reads it (R180). -/
def loadSequence : List RecordId :=
  [.settings, .wear] ++ (List.finRange 16).map RecordId.aliasAt ++ (List.finRange 32).map RecordId.entryAt ++
    [.geometry]

/-- The record being read. -/
def State.reading (s : State) : Option RecordId := loadSequence[s.store.loadIndex]?

/-- The staged records replaced. -/
def withStaged (x : Staged) (s : State) : State := s.withStore { s.store with staged := x }

/-- STORE FAULT's detail (R175). -/
def storeDetail (r : RecordId) (failedWrite : Bool) : Nat :=
  (recordKind r + if failedWrite then 128 else 0) * 256 + recordNumber r

/-- A record fails at load: its default stands, STORE FAULT is latched and the record marked (R180). -/
def recordFails (r : RecordId) (s : State) : State := mark r (latch .storeFault (storeDetail r false) s)

/-- The stored E, limited when the settings would place it beyond the expiry limit (R89). -/
def limitedWear (x : Settings) (w : WearRecord) : WearRecord :=
  if x.expiryLimit + 900 ≤ w.equivalent then { w with equivalent := x.expiryLimit } else w

/-- The wear record is taken, and marked when its E was limited (R89). -/
def stageWear (w : WearRecord) (s : State) : State :=
  let x := s.store.staged
  let kept := limitedWear x.settings w
  let t := withStaged { x with wear := kept } s
  if kept = w then t else mark .wear t

/-- A lower alias position already holds the hall source number (R113). -/
def repeatsSource (table : Vector (Option AliasEntry) 16) (source : Nat) : Bool :=
  (table.toList.filterMap id).any fun e => e.source == source

/-- An alias position is taken; one that repeats a number of a lower position is emptied (R113). -/
def stageAlias (i : Fin 16) (e : Option AliasEntry) (s : State) : State :=
  match e with
  | none => s
  | some a =>
    if repeatsSource s.store.staged.table a.source then recordFails (.aliasAt i) s
    else withStaged { s.store.staged with table := s.store.staged.table.set i e } s

/-- A schedule slot is taken (R151). -/
def stageSlot (i : Fin 32) (e : Option Entry) (s : State) : State :=
  withStaged { s.store.staged with entries := s.store.staged.entries.set i e } s

/-- The content of a record that passes its check is taken by its owner's rules, or treated as failing (R89, R113, R127,
R151, R181). -/
def takeRecord (r : RecordId) (content : List Byte) (s : State) : State :=
  match r with
  | .settings =>
    match parseSettings content with
    | some x => withStaged { s.store.staged with settings := x } s
    | none => recordFails r s
  | .wear =>
    match parseWear content with
    | some w => stageWear w s
    | none => recordFails r s
  | .aliasAt i =>
    match parseAlias content with
    | some e => stageAlias i e s
    | none => recordFails r s
  | .entryAt i =>
    match parseSlot content with
    | some e => stageSlot i e s
    | none => recordFails r s
  | .geometry =>
    match parseGeometry content with
    | some (k, presets) => withStaged { s.store.staged with keystone := k, presets := presets } s
    | none => recordFails r s

/-- The owners take the records read, and the settings image comes into effect (R180, R181). -/
def commitLoad (s : State) : State :=
  let x := s.store.staged
  ((((s.withStore { s.store with settings := x.settings, toStore := x.settings, staged := Staged.default }).withWear
      { record := x.wear, sinceExtinction := none }).withRouter { s.router with table := x.table }).withSchedule
      { s.schedule with table := x.entries }).withGeometry
      { s.geometry with current := x.keystone, presets := x.presets }

/-- The COOLDOWN timer of the reset starts (R74, R180). -/
def startCooldownTimer (s : State) : State :=
  if s.lamp.state = .cooldown then
    s.withLamp { s.lamp with timer := some (s.now + s.store.settings.cooldown * 1000) }
  else s

/-- The load completes (R180): the records come into effect, the COOLDOWN timer starts, LIFE LOW is judged (R89), the
first corner set is sent (R128) and the writes begin (R178). -/
def completeLoad (s : State) : State :=
  beginWrite (produceCorners (judgeLifeLow (startCooldownTimer (commitLoad s))))

/-- The load goes on to the next record, or completes (R180). -/
def nextRead (s : State) : State :=
  let t := s.withStore
    { s.store with loadIndex := s.store.loadIndex + 1, readTimer := some (s.now + Config.memoryTime) }
  if t.loaded then completeLoad (t.withStore { t.store with readTimer := none }) else t

/-- The 50 ms of the READ have not passed (R180). -/
def State.readInTime (s : State) : Bool := s.store.readTimer.all fun due => decide (s.now ≤ due)

/-- The memory answers a READ (R180). A READ answered after its 50 ms counts as a record that fails its check. -/
def readEnds (bytes : List Byte) (s : State) : State :=
  match s.reading with
  | none => s
  | some r =>
    match if s.readInTime then checkedContent bytes else none with
    | some content => nextRead (takeRecord r content s)
    | none => nextRead (recordFails r s)

/-- A READ is not answered within its 50 ms (R180; log 3). -/
def readFails (s : State) : State :=
  match s.reading with
  | none => s
  | some r => if runsOut s s.store.readTimer then nextRead (recordFails r s) else s

/-! ## Writes (R178, R179) -/

/-- The retry flag of a record cleared. -/
def dropRetry (r : RecordId) (retry : List RecordId) : List RecordId := retry.filter fun x => x != r

/-- The memory confirms a WRITE (R178). A confirmation after the 50 ms is ignored, and so is a late one of an
earlier WRITE, another being in flight (R179; log 17). -/
def writeConfirms (late : Bool) (s : State) : State :=
  match s.store.inFlight with
  | none => s
  | some w =>
    if late = false ∧ s.now ≤ w.due then
      beginWrite (s.withStore { s.store with inFlight := none, retry := dropRetry w.record s.store.retry })
    else s

/-- The failure of a write (R179). -/
def takeFailure (w : WriteInFlight) (s : State) : State :=
  let t := latch .storeFault (storeDetail w.record true) (s.withStore { s.store with inFlight := none })
  if w.record ∈ s.store.retry then
    beginWrite (t.withStore { t.store with retry := dropRetry w.record t.store.retry })
  else beginWrite (mark w.record (t.withStore { t.store with retry := w.record :: t.store.retry }))

/-- The write in flight is not confirmed within its 50 ms (R179; log 3). -/
def writeFails (s : State) : State :=
  match s.store.inFlight with
  | none => s
  | some w => if w.due ≤ s.now then takeFailure w s else s

/-! ## Settings and restart (R182, R183) -/

/-- A SETTINGS WRITE (R182). -/
def takeSettingsWrite (x : Settings) (s : State) : State × Result :=
  (mark .settings (s.withStore { s.store with toStore := x }), .done)

/-- A RESTART (R183). -/
def takeRestart (s : State) : State × Result :=
  (s.withStore { s.store with restartPending := true }, .done)

/-- The pending restart's reset is due (R183): its ANSWER has departed and nothing waits to be written. -/
def State.restartReady (s : State) : Bool :=
  s.store.restartPending && !(s.line.queue.any QueuedFrame.forRestart) && s.store.list.isEmpty &&
    s.store.inFlight.isNone

/-- The part in reset (R183): every block in its reset state. The commands that wait and the lamp-on sense are outside
the part and stay (log 7). -/
def enterReset (s : State) : State :=
  { State.reset with pending := s.pending, lamp := { Lamp.reset with sense := s.lamp.sense } }

/-- The release of reset (R184): the straps are sampled and the load begins. -/
def releaseReset (address : BitVec 5) (timeReference : Bool) (s : State) : State :=
  let t := enterReset s
  { t with
    released := true
    line := { t.line with address := address, timeReference := timeReference }
    store := { t.store with readTimer := some Config.memoryTime } }

end Sys2Proof.Machine
end

