-- ==== Sys2Proof/Machine/Locks.lean ====
section
/-! DEFINITION. The Lockout Unit: LOCK, UNLOCK, expiry on the minute tick and the schedule floor (chapter Lockout). -/

namespace Sys2Proof.Machine

/-- The state with the lock stack replaced. -/
def withStack (stack : List LockEntry) (s : State) : State := s.withLockout { s.lockout with stack := stack }

/-- A LOCK of a level and a duration in minutes, 0 for none (R133, R134). -/
def takeLock (level duration authority holder : Nat) (s : State) : State × Result :=
  if authority < level then (s, .range)
  else if s.lockout.stack ≠ [] ∧ level ≤ topLevel s.lockout.stack then (s, .conflict)
  else if Config.stackSize ≤ s.lockout.stack.length then (s, .full)
  else
    (withStack (s.lockout.stack ++ [{ level := level, holder := holder, minutes := ofZeroAbsent duration }]) s, .done)

/-- The entry an UNLOCK names: that of the level, or the top entry for level 0 (R135). -/
def namedLock (stack : List LockEntry) (level : Nat) : Option LockEntry :=
  if level = 0 then stack.getLast? else stack.find? fun e => e.level == level

/-- An UNLOCK whose all-flag is clear (R135). -/
def takeUnlock (level authority : Nat) (s : State) : State × Result :=
  match namedLock s.lockout.stack level with
  | none => (s, .conflict)
  | some e =>
    if authority < e.level then (s, .authority)
    else (withStack (s.lockout.stack.filter fun x => x.level != e.level) s, .done)

/-- An UNLOCK whose all-flag is set (R136). -/
def takeUnlockAll (authority : Nat) (s : State) : State × Result :=
  (withStack (s.lockout.stack.filter fun x => decide (authority < x.level)) s, .done)

/-- A lock entry after one minute tick; none when it has run out (R137). -/
def minutePassed (e : LockEntry) : Option LockEntry :=
  match e.minutes with
  | none => some e
  | some n => if n ≤ 1 then none else some { e with minutes := some (n - 1) }

/-- The minute tick that the last sixtieth tick made due (R137; log 6). -/
def takeMinuteTick (s : State) : State :=
  if s.lockout.minuteDue then
    s.withLockout { s.lockout with stack := s.lockout.stack.filterMap minutePassed, minuteDue := false }
  else s

/-- One second is counted towards the next minute tick, which every sixtieth makes due (R137). -/
def countSecond (s : State) : State :=
  if 59 ≤ s.lockout.minuteCount then s.withLockout { s.lockout with minuteCount := 0, minuteDue := true }
  else s.withLockout { s.lockout with minuteCount := s.lockout.minuteCount + 1 }

/-- The schedule floor is replaced (R139). -/
def setFloor (floor : Nat) (s : State) : State := s.withLockout { s.lockout with floor := floor }

end Sys2Proof.Machine
end

