-- ==== Sys2Proof/Machine/Sharing.lean ====
section
/-! DEFINITION. Shared Duty: the offer, the candidates and their ranking, the duty decision and what it asks of the lamp
(chapter Shared duty). -/

namespace Sys2Proof.Machine

/-- The offer, derived before anything else in an evaluation (R160). -/
def State.offerNow (s : State) : Option Nat :=
  if s.line.state = .active ∧ s.lampFaulted = false ∧ s.life ≠ .lifeOut ∧ s.life ≠ .expired ∧
      s.duty.declined = false ∧ s.lamp.state ≠ .cooldown then
    s.duty.entryGroup
  else none

/-- A candidate with the figures it is ranked by (R163). -/
structure Candidate where
  address : Nat
  lamp : LampState
  cause : LitCause
  wearKey : Nat
  deriving DecidableEq, Repr

/-- The station's own figures (R163). -/
def State.ownCandidate (s : State) : Candidate :=
  { address := s.line.address.toNat, lamp := s.lamp.state, cause := s.lamp.cause, wearKey := s.wearKey }

/-- The figures a peer record holds (R163). -/
def peerCandidate (r : PeerRecord) : Candidate :=
  { address := r.address.toNat, lamp := r.beacon.lamp, cause := r.beacon.cause, wearKey := r.beacon.wearKey }

/-- The peers that offer the group (R163). -/
def State.peerCandidates (s : State) (group : Nat) : List Candidate :=
  ((s.peers.table.toList.filterMap id).filter fun r => r.beacon.offer == some group).map peerCandidate

/-- A candidate lit by an order or a key, which is counted and not ranked (R164). -/
def Candidate.isCounted (c : Candidate) : Bool := c.cause == .order || c.cause == .key

/-- `a` is ranked ahead of `b`: on before dark, then the greater wear key, then the lower address (R165). -/
def rankedBefore (a b : Candidate) : Bool :=
  if lampOn a.lamp != lampOn b.lamp then lampOn a.lamp
  else if a.wearKey ≠ b.wearKey then decide (b.wearKey < a.wearKey)
  else decide (a.address < b.address)

/-- The duty slots of a group: the demand less the counted candidates (R164). -/
def State.dutySlots (s : State) (group : Nat) : Nat :=
  s.duty.entryDemand.getD 0 - ((s.ownCandidate :: s.peerCandidates group).countP Candidate.isCounted)

/-- The ranked peers that stand ahead of the station (R165). -/
def State.ahead (s : State) (group : Nat) : List Candidate :=
  (s.peerCandidates group).filter fun c => !c.isCounted && rankedBefore c s.ownCandidate

/-- The station's position in the ranking (R165). -/
def State.rank (s : State) (group : Nat) : Nat := (s.ahead group).length

/-- The dark candidates ranked ahead of the station (R165). -/
def State.darkRank (s : State) (group : Nat) : Nat := (s.ahead group).countP fun c => !lampOn c.lamp

/-- The duty decision of a state whose offer has been derived (R165). -/
def State.decision (s : State) : DutyDecision :=
  match s.duty.offer with
  | none => .noDuty
  | some group =>
    if s.ownCandidate.isCounted then .counted
    else if s.rank group < s.dutySlots group then .on
    else .off

/-- The holdoff is stopped (R166). -/
def stopHoldoff (s : State) : State := s.withDuty { s.duty with holdoff := none }

/-- The holdoff of an ON decision with dark rank `d` of 1 or more (R167). -/
def runHoldoff (d : Nat) (s : State) : State :=
  match s.duty.holdoff with
  | some h => if h.length = d then s else s.withDuty { s.duty with holdoff := some { length := d, due := s.now + d * 1000 } }
  | none => s.withDuty { s.duty with holdoff := some { length := d, due := s.now + d * 1000 } }

/-- The offer is derived and held (R160). -/
def deriveOffer (s : State) : State := s.withDuty { s.duty with offer := s.offerNow }

/-- The action of the duty decision (R166, R167); at the end of a holdoff the strike is asked for whatever the dark
rank. -/
def actOnDecision (holdoffEnded : Bool) (s : State) : State :=
  match s.decision with
  | .on =>
    if s.lamp.state = .dark then
      if holdoffEnded || s.darkRank (s.duty.offer.getD 0) == 0 then strikeRequest (stopHoldoff s)
      else runHoldoff (s.darkRank (s.duty.offer.getD 0)) s
    else stopHoldoff s
  | .off => release (stopHoldoff s)
  | .noDuty => release (stopHoldoff s)
  | .counted => stopHoldoff s

/-- One evaluation (R162 to R167). -/
def evaluateOnce (holdoffEnded : Bool) (s : State) : State := actOnDecision holdoffEnded (deriveOffer s)

/-- Evaluations, each request's change of lamp state raising a further one (R169), for at most the given number. -/
def evaluateChain : Nat → State → State
  | 0, s => s
  | n + 1, s =>
    let t := evaluateOnce false s
    if t.lamp.state = s.lamp.state then t else evaluateChain n t

/-- An evaluation and those its request raises (R162, R169). -/
def evaluate (s : State) : State := evaluateChain 3 s

/-- The strike holdoff runs out (R167). One that another event started afresh runs out later (R168; log 3). -/
def holdoffEnds (s : State) : State :=
  if runsOut s (s.duty.holdoff.map Holdoff.due) then evaluateOnce true (stopHoldoff s) else s

end Sys2Proof.Machine
end

