-- ==== Sys2Proof/Machine/Timetable.lean ====
section
/-! DEFINITION. The Schedule Unit: the clock, the governing entry, and applying or ending an entry (chapter Clock and
room schedule). -/

namespace Sys2Proof.Machine

/-! ## The governing entry (R152) -/

/-- The entry can govern at the day and minute (R152). -/
def Entry.covers (e : Entry) (x : Settings) (day minute : Nat) : Bool :=
  e.days.getLsbD day && decide (e.start ≤ minute ∧ minute < e.stop) && x.member e.group

/-- The entry of slot `i` is chosen over that of a lower slot (R152): later start, then lower group, then higher slot. -/
def Entry.beats (new old : Entry) : Bool :=
  decide (old.start < new.start) || (old.start == new.start && decide (new.group ≤ old.group))

/-- The better of the entry chosen so far, from lower slots, and the one of slot `i` (R152). -/
def betterEntry (x : Settings) (day minute : Nat) (chosen : Option (Nat × Entry)) (slot : Nat × Option Entry) :
    Option (Nat × Entry) :=
  match slot.2 with
  | none => chosen
  | some e =>
    if e.covers x day minute then
      match chosen with
      | none => some (slot.1, e)
      | some (_, old) => if e.beats old then some (slot.1, e) else chosen
    else chosen

/-- The slots of the table with their numbers, from slot 0. -/
def Schedule.slots (u : Schedule) : List (Nat × Option Entry) :=
  (List.range 32).zip u.table.toList

/-- The governing entry for the current day and minute, with its slot (R152). -/
def State.entryFound (s : State) : Option (Nat × Entry) :=
  if s.schedule.valid then
    s.schedule.slots.foldl (betterEntry s.store.settings s.schedule.day s.schedule.minute) none
  else none

/-! ## Applying and ending (R154, R155, R159) -/

/-- The entry's source is taken as a selection (R106). -/
def applySource (source : Option Nat) (s : State) : State :=
  match source with
  | none => s
  | some n => (takeSelect n s).1

/-- The entry's preset is recalled; an empty slot is skipped (R125). -/
def applyPreset (preset : Option Nat) (s : State) : State :=
  match preset with
  | none => s
  | some n => (takeRecallPreset n s).1

/-- The entry's power mode is requested (R67). -/
def applyMode (mode : Option PowerMode) (s : State) : State :=
  match mode with
  | none => s
  | some m => requestMode m s

/-- Shared Duty takes the group and demand, or none, and clears the declined flag (R159). -/
def takeDutyEntry (group demand : Option Nat) (s : State) : State :=
  s.withDuty { s.duty with entryGroup := group, entryDemand := demand, declined := false }

/-- The governing identity becomes the one found (R153). -/
def setGoverning (identity : Option (Nat × Nat)) (s : State) : State :=
  s.withSchedule { s.schedule with governing := identity }

/-- An entry is applied: its parts go to their owners (R154). -/
def applyEntry (e : Entry) (s : State) : State :=
  takeDutyEntry (some e.group) (some e.demand)
    (setFloor (e.level.getD 0) (applyMode e.mode (applyPreset e.preset (applySource e.source s))))

/-- The governing entry ends (R155). -/
def endEntry (s : State) : State := takeDutyEntry none none (setFloor 0 s)

/-- The schedule is evaluated; `written` is the slot written in this event (R153). Shared Duty evaluates at every
evaluation. -/
def evaluateSchedule (written : Option Nat) (s : State) : State :=
  match s.entryFound with
  | some (slot, e) =>
    if s.schedule.governing = some (slot, e.start) ∧ written ≠ some slot then evaluate s
    else evaluate (applyEntry e (setGoverning (some (slot, e.start)) s))
  | none =>
    match s.schedule.governing with
    | none => evaluate s
    | some _ => evaluate (endEntry (setGoverning none s))

/-! ## The clock -/

/-- Setting the clock (R146). -/
def setClock (day minute second : Nat) (s : State) : State :=
  let t := s.withSchedule { s.schedule with day := day, minute := minute, second := second, valid := true }
  if s.schedule.valid = false ∨ s.schedule.day ≠ day ∨ s.schedule.minute ≠ minute then evaluateSchedule none t else t

/-- The clock stands at the start of a minute that it reached by advancing; with the valid flag set the boundary is due
(R143). -/
def crossBoundary (day minute : Nat) (u : Schedule) : Schedule :=
  { u with second := 0, minute := minute, day := day, boundaryDue := if u.valid then some (day, minute) else none }

/-- The clock advances by one second; a boundary crossed with the valid flag set is due for evaluation (R143). -/
def advanceClock (s : State) : State :=
  let u := s.schedule
  if u.second < 59 then s.withSchedule { u with second := u.second + 1 }
  else if u.minute < 1439 then
    s.withSchedule (crossBoundary u.day (u.minute + 1) u)
  else
    s.withSchedule (crossBoundary ((u.day + 1) % 7) 0 u)

/-- The time-reference station offers its CLOCK, carrying the day and minute as they stood after the boundary (R147). -/
def broadcastClock (day minute : Nat) (s : State) : State :=
  if s.line.timeReference then offerFrame (clockFrame s day minute) s else s

/-- The minute boundary that the last tick crossed is evaluated (R143, R147, R153; log 6). Its CLOCK is offered before
anything the evaluation offers, and before the BEACON (log 25). The model's choice (log 6): a clock setting or a tick
taken between that tick and this command leaves the boundary due; the CLOCK is the boundary's own, and the schedule is
evaluated for the time that then stands. -/
def takeBoundary (s : State) : State :=
  match s.schedule.boundaryDue with
  | some (day, minute) =>
    if s.schedule.valid then
      evaluateSchedule none (broadcastClock day minute (s.withSchedule { s.schedule with boundaryDue := none }))
    else s
  | none => s

/-- A delivered CLOCK frame's payload (R144). -/
def takeClock (payload : List Byte) (s : State) : State :=
  match payload with
  | [day, m1, m0, second] =>
    if timeInRange day.toNat (numberOf [m1, m0]) second.toNat then
      setClock day.toNat (numberOf [m1, m0]) second.toNat s
    else s
  | _ => s

/-! ## The table -/

/-- The entry held in a slot (R148). -/
def Schedule.entryAt (u : Schedule) (slot : Nat) : Option Entry := u.table.toList.getD slot none

/-- The slot holds `e`, its record is marked, and a valid clock evaluates the schedule with the slot written (R149,
R150). -/
def writeSlot (slot : Fin 32) (e : Option Entry) (s : State) : State :=
  let t := mark (.entryAt slot) (s.withSchedule { s.schedule with table := s.schedule.table.set slot e })
  if s.schedule.valid then evaluateSchedule (some slot.val) t else t

/-- An ENTRY WRITE (R149). -/
def takeEntryWrite (slot : Nat) (e : Entry) (s : State) : State × Result :=
  if h : slot < 32 then (writeSlot ⟨slot, h⟩ (some e) s, .done) else (s, .range)

/-- An ENTRY CLEAR (R150). -/
def takeEntryClear (slot : Nat) (s : State) : State × Result :=
  if h : slot < 32 then
    match s.schedule.entryAt slot with
    | some _ => (writeSlot ⟨slot, h⟩ none s, .done)
    | none => (s, .done)
  else (s, .range)

end Sys2Proof.Machine
end

