-- ==== Sys2Proof/Machine/Query.lean ====
section
/-! DEFINITION. The records QUERY answers (R34, R44, R45, R92, R112, R129, R141, R158; layouts in 1.10). -/

namespace Sys2Proof.Machine

/-- STATUS (R21). -/
def statusData (s : State) : List Byte := s.beaconNow

/-- The seconds since extinction as sent (R45). -/
def sentExtinction (n : Option Nat) : Nat :=
  match n with
  | none => 0xFFFFFF
  | some n => min n 16777214

/-- WEAR (R45, R92). -/
def wearData (s : State) (index : Nat) : List Byte :=
  let r := s.wear.record
  match index with
  | 0 =>
    bytesOf 4 r.equivalent ++ [byteOf r.residue] ++ bytesOf 4 r.litSeconds ++ bytesOf 3 (min r.strikes 16777215) ++
      bytesOf 3 (sentExtinction s.wear.sinceExtinction) ++ [byteOf (lifeCode s.life)]
  | 1 => labelBytes r.label
  | _ => []

/-- ALIAS (R112). -/
def aliasData (s : State) (index : Nat) : List Byte :=
  match s.router.table.toList.getD index none with
  | some e => aliasBytes e
  | none => []

/-- ENTRY (R158). -/
def entryData (s : State) (index : Nat) : List Byte :=
  match s.schedule.entryAt index with
  | some e => entryBytes e
  | none => []

/-- One lock entry in LOCKS (R45). -/
def lockData (e : LockEntry) : List Byte :=
  byteOf e.level :: byteOf e.holder :: bytesOf 2 (zeroAbsent e.minutes)

/-- LOCKS (R45, R141). -/
def locksData (s : State) : List Byte :=
  byteOf s.lockout.floor :: byteOf s.lockout.stack.length :: s.lockout.stack.flatMap lockData

/-- PEER (R34). -/
def peerData (s : State) (index : Nat) : List Byte :=
  match s.peers.table.toList.getD index none with
  | some r => byteOf r.address.toNat :: byteOf (s.ageOf r) :: beaconBytes r.beacon
  | none => []

/-- The latched set as two bytes, in the form of ACKNOWLEDGE's argument (R41). -/
def latchedBytes (s : State) : List Byte := bytesOf 2 s.conditions.toNat

/-- CONDITIONS (R45). -/
def conditionsData (s : State) : List Byte :=
  latchedBytes s ++
    match s.line.failure with
    | none => [0, 0, 0, 0, 0, 0]
    | some r =>
      [byteOf (reasonCode r.reason), flagByte s.line.overflow, byteOf r.kind.code.toNat, r.dest] ++
        match r.codeTag with
        | some (code, tag) => [code, tag]
        | none => [0, 0]

/-- GEOMETRY (R118, R129). -/
def geometryData (s : State) : List Byte :=
  keystoneBytes s.geometry.current ++ [flagByte s.handoffBusy, flagByte s.geometry.pendingSet.isSome] ++
    bytesOf 2 (retainedWidth s.store.settings.rasterWidth s.geometry.current) ++
    bytesOf 2 (retainedHeight s.store.settings.rasterHeight s.geometry.current)

/-- PRESET (R129). -/
def presetData (s : State) (index : Nat) : List Byte :=
  match s.geometry.preset index with
  | some k => keystoneBytes k
  | none => []

/-- CLOCK (R45, R158). -/
def clockData (s : State) : List Byte :=
  byteOf s.schedule.day :: bytesOf 2 s.schedule.minute ++ [byteOf s.schedule.second, flagByte s.schedule.valid]

/-- SETTINGS (R45). -/
def settingsData (s : State) : List Byte := settingsBytes s.store.settings

/-- The data of a record and an index (R44). -/
def queryData (s : State) (record index : Nat) : List Byte :=
  match record with
  | 0 => statusData s
  | 1 => wearData s index
  | 2 => aliasData s index
  | 3 => entryData s index
  | 4 => locksData s
  | 5 => peerData s index
  | 6 => conditionsData s
  | 7 => geometryData s
  | 8 => presetData s index
  | 9 => clockData s
  | 10 => settingsData s
  | _ => []

end Sys2Proof.Machine
end

