-- ==== Sys2Proof/Machine/Orders.lean ====
section
/-! DEFINITION. The Order Decoder: the acceptance path, the owners' results, answers and key events (chapter Orders and
answers). -/

namespace Sys2Proof.Machine

/-! ## Owners (R40) -/

/-- An order as its owner takes it (R40): its arguments, its authority, and its origin, an ORDER frame's source address
or none for the local key input. -/
structure Taken where
  args : List Byte
  authority : Nat
  origin : Option (BitVec 5)
  deriving DecidableEq, Repr

/-- What an owner returns: the state, the result and the data of a DONE answer (R40, R41). -/
structure Outcome where
  state : State
  result : Result
  data : List Byte

/-- An outcome without data. -/
def plain (r : State × Result) : Outcome := { state := r.1, result := r.2, data := [] }

/-- The lit cause of an order's origin (R40). -/
def causeOf (t : Taken) : LitCause := if t.origin.isSome then .order else .key

/-- ACKNOWLEDGE's named conditions that are clearable now (R71, R176). -/
def State.clearable (s : State) (c : Condition) : Bool :=
  match c with
  | .thermalTrip => match s.lamp.housing with
    | none => true
    | some t => decide (t < Config.clearBelow)
  | _ => true

/-- Every condition. -/
def allConditions : List Condition :=
  [.ignitionFailed, .lampOut, .thermalTrip, .lifeLow, .noSignal, .geometryFault, .transmitFailed, .peerTableFull,
    .storeFault]

/-- One condition named by an ACKNOWLEDGE (R176). -/
def acknowledgeOne (named : Nat) (c : Condition) (s : State) : State :=
  if named.testBit (conditionCode c) && s.latched c && s.clearable c then clearCondition c s else s

/-- An ACKNOWLEDGE of a condition set (R17, R176). -/
def takeAcknowledge (named : Nat) (s : State) : Outcome :=
  let t := allConditions.foldl (fun u c => acknowledgeOne named c u) s
  { state := t, result := .done, data := latchedBytes t }

/-- A WEAR RESET (R86). -/
def takeWearReset (label : List Byte) (s : State) : State × Result :=
  if s.lamp.state = .dark then
    (mark .wear
      (clearCondition .lifeLow (s.withWear { s.wear with record := { WearRecord.zero with label := label } })), .done)
  else (s, .state)

/-- The owner of an order takes it (R39, R40). Arguments of another form than R37's leave the state as it is. -/
def ownerTakes (kind : OrderKind) (t : Taken) (s : State) : Outcome :=
  match kind, t.args with
  | .light, _ => plain (takeLight (causeOf t) s)
  | .rest, _ => plain (takeRest s)
  | .setMode, [mode] =>
    match modeOfCode mode.toNat with
    | some m => plain (takeSetMode m s)
    | none => plain (s, .range)
  | .showPicture, _ => plain (takeShow s)
  | .blank, _ => plain (takeBlank s)
  | .select, [source] => plain (takeSelect source.toNat s)
  | .aliasWrite, args =>
    match aliasOf args with
    | some e => plain (takeAliasWrite e s)
    | none => plain (s, .range)
  | .aliasClear, [source] => plain (takeAliasClear source.toNat s)
  | .setKeystone, [kv, kh] => plain (takeSetKeystone (keystoneOf kv kh) s)
  | .nudgeKeystone, [axis, step] =>
    if axis = 0 then plain (nudgeVertical step.toInt s) else plain (nudgeHorizontal step.toInt s)
  | .storePreset, [slot] => plain (takeStorePreset slot.toNat s)
  | .recallPreset, [slot] => plain (takeRecallPreset slot.toNat s)
  | .lock, [level, d1, d0] =>
    plain (takeLock level.toNat (numberOf [d1, d0]) t.authority ((t.origin.getD 0).toNat) s)
  | .unlock, [level, flags] =>
    if flags.getLsbD 0 then plain (takeUnlockAll t.authority s) else plain (takeUnlock level.toNat t.authority s)
  | .entryWrite, slot :: entry =>
    match parseEntry entry with
    | some e => plain (takeEntryWrite slot.toNat e s)
    | none => plain (s, .range)
  | .entryClear, [slot] => plain (takeEntryClear slot.toNat s)
  | .timeSet, [day, m1, m0, second] => plain (setClock day.toNat (numberOf [m1, m0]) second.toNat s, .done)
  | .acknowledge, [a1, a0] => takeAcknowledge (numberOf [a1, a0]) s
  | .query, [record, index] => { state := s, result := .done, data := queryData s record.toNat index.toNat }
  | .wearReset, _ :: label => plain (takeWearReset label s)
  | .settingsWrite, record =>
    match parseSettings record with
    | some x => plain (takeSettingsWrite x s)
    | none => plain (s, .range)
  | .restart, _ => plain (takeRestart s)
  | _, _ => plain (s, .range)

/-! ## The acceptance path (R35 to R41) -/

/-- Whom an order's destination names (3.1). -/
inductive Destined where
  | direct
  | shared
  | notOurs
  deriving DecidableEq, Repr

/-- The class of an order's destination (R35); group orders and broadcasts are handled alike. -/
def State.destined (s : State) (dest : Byte) : Destined :=
  match destKind dest with
  | 0 =>
    if destValue dest = 31 then .shared
    else if destValue dest = s.line.address.toNat then .direct
    else .notOurs
  | 1 => if s.store.settings.member (destValue dest) then .shared else .notOurs
  | 2 => .shared
  | _ => .notOurs

/-- A direct order is answered; any other is not (R41). -/
def answer (direct forRestart : Bool) (code : Byte) (o : OrderFrame) (result : Result) (data : List Byte) (s : State) :
    State :=
  if direct then offerMarked (answerFrame s o.source code o.tag result data) forRestart s else s

/-- The CUE frames that follow a SELECT taken with STARTED (R109). -/
def announce (kind : OrderKind) (t : Taken) (result : Result) (s : State) : State :=
  match kind, t.args with
  | .select, [source] => if result = .started then offerCues t.authority source.toNat s else s
  | _, _ => s

/-- The form, the ranges and the lockout judge an order of a known code (R37 to R39): the result that refuses it. -/
def orderRefusal (kind : OrderKind) (authority : Nat) (args : List Byte) (s : State) : Option Result :=
  if orderFormOk kind args && orderRangeOk kind args then
    s.lockoutCheck authority (orderMinAuthority kind) (orderLockable kind)
  else some .range

/-- The order's own effect and its answer, once it is known to be for this station (R37 to R41). -/
def judgeOrder (kind : OrderKind) (direct : Bool) (o : OrderFrame) (s : State) : State :=
  match orderRefusal kind o.authority.toNat o.args s with
  | some refusal => answer direct false kind.code o refusal [] s
  | none =>
    let t : Taken := { args := o.args, authority := o.authority.toNat, origin := some o.source }
    let r := ownerTakes kind t s
    let forRestart := kind == .restart && !s.store.restartPending
    announce kind t r.result (answer direct forRestart kind.code o r.result r.data r.state)

/-- An order of a known code (R35, R36). -/
def decodeOrder (kind : OrderKind) (o : OrderFrame) (s : State) : State :=
  match s.destined o.dest with
  | .notOurs => s
  | .shared => if orderDirectOnly kind then s else judgeOrder kind false o s
  | .direct => judgeOrder kind true o s

/-- An order of an unknown code (R36). -/
def decodeUnknown (code : Byte) (o : OrderFrame) (s : State) : State :=
  match s.destined o.dest with
  | .direct => answer true false code o .unknown [] s
  | _ => s

/-- An order of any code. -/
def decodeAny (code : Byte) (o : OrderFrame) (s : State) : State :=
  match orderOfCode code with
  | some kind => decodeOrder kind o s
  | none => decodeUnknown code o s

/-- An ORDER frame that has passed R18 meets the header screen (R19), the address comparison (R7) and the delivery of
R20. -/
def receiveOrder (code : Byte) (o : OrderFrame) (s : State) : State :=
  if s.line.skipping then s
  else if !(sourceOk o.source && destOk o.dest) then s
  else if o.source = s.line.address then enterClash s
  else if s.line.state = .active then decodeAny code o s
  else s

/-! ## Key events (R46 to R48) -/

/-- A refused key event shows REFUSED for 1 s (R48). -/
def showRefused (s : State) : State := s.withRefusedTimer (some (s.now + Config.refusedTime))

/-- The 1 s of REFUSED runs out (R48), not before its moment: a further refusal restarts it (log 3). -/
def refusedEnds (s : State) : State := if runsOut s s.refusedTimer then s.withRefusedTimer none else s

/-- The result is that of an order taken (3.2). -/
def Result.taken : Result → Bool
  | .done => true
  | .started => true
  | .held => true
  | .adjusted => true
  | _ => false

/-- The order formed from a key event is judged and taken at the keypad authority (R46). -/
def keyOrder (kind : OrderKind) (args : List Byte) (s : State) : State :=
  match orderRefusal kind s.store.settings.keypadAuthority args s with
  | some _ => showRefused s
  | none =>
    let t : Taken := { args := args, authority := s.store.settings.keypadAuthority, origin := none }
    let r := ownerTakes kind t s
    announce kind t r.result (if r.result.taken then r.state else showRefused r.state)

/-- The POWER key (R47). -/
def pressPower (s : State) : State :=
  match s.lamp.state with
  | .dark => keyOrder .light [] s
  | .cooldown => keyOrder .light [] s
  | _ => keyOrder .rest [] s

/-- The SOURCE key (R47). -/
def pressSource (s : State) : State :=
  match s.router.nextSource with
  | some n => keyOrder .select [byteOf n] s
  | none => s

/-- The BLANK key (R47). -/
def pressBlank (s : State) : State :=
  if s.router.wanted then keyOrder .blank [] s else keyOrder .showPicture [] s

/-- A keystone key of an axis, + or − (R47). -/
def pressKeystone (axis : Byte) (plus : Bool) (s : State) : State :=
  keyOrder .nudgeKeystone [axis, if plus then signedByteOf 1 else signedByteOf (-1)] s

end Sys2Proof.Machine
end

