-- ==== Sys2Proof/Machine/Reception.lean ====
section
/-! DEFINITION. The Line Interface at work: the receive path (R18 to R20), contention, the end of an attempt (R13 to
R15), and the Peer Table's taking of beacons (R27 to R31). -/

namespace Sys2Proof.Machine

/-! ## The peer table -/

/-- The peer record of an address. -/
def Peers.positionOf (p : Peers) (address : BitVec 5) : Option (Fin 15) :=
  (List.finRange 15).find? fun i =>
    match p.table[i] with
    | some r => r.address == address
    | none => false

/-- The lowest-numbered empty position of the peer table (R29). -/
def Peers.emptyPosition (p : Peers) : Option (Fin 15) :=
  (List.finRange 15).find? fun i => p.table[i].isNone

/-- A position of the peer table replaced. -/
def putPeer (i : Fin 15) (r : Option PeerRecord) (s : State) : State :=
  s.withPeers { s.peers with table := s.peers.table.set i r }

/-- An accepted beacon (R28 to R30). -/
def takeBeacon (address : BitVec 5) (b : Beacon) (s : State) : State :=
  let r : PeerRecord := { address := address, beacon := b, heardAt := s.now }
  match s.peers.positionOf address with
  | some i => putPeer i (some r) s
  | none =>
    match s.peers.emptyPosition with
    | some i => putPeer i (some r) s
    | none => latch .peerTableFull address.toNat s

/-- A record whose age has reached 7 s is removed; one refreshed since then stays (R31). -/
def agePeer (address : BitVec 5) (s : State) : State :=
  match s.peers.positionOf address with
  | some i => if s.peers.table[i].any fun r => decide (r.heardAt + Config.peerLife ≤ s.now) then putPeer i none s else s
  | none => s

/-! ## The receive path -/

/-- A frame that has passed both screens is delivered by its kind and the line state (R20). -/
def deliver (f : Frame) (s : State) : State :=
  match f.kind with
  | .beacon =>
    match parseBeacon f.payload with
    | some b => takeBeacon f.source b s
    | none => s
  | .clock => takeClock f.payload s
  | .order =>
    match s.line.state, orderOfFrame f with
    | .active, some (code, o) => decodeAny code o s
    | _, _ => s
  | .cue =>
    match s.line.state, f.payload with
    | .listen, _ => s
    | _, [group, source] => takeCue f.authority.toNat group.toNat source.toNat s
    | _, _ => s
  | .answer => s
  | .notice => s

/-- A frame that has passed the header screen: the address comparison (R7), then the length screen (R19), then delivery
(R20). -/
def takeFrame (f : Frame) (s : State) : State :=
  if f.source = s.line.address then enterClash s
  else if lengthSuits f.kind f.payload then deliver f s
  else s

/-- The bytes of one frame reach the receive path (R18). -/
def receive (bytes : List Byte) (s : State) : State :=
  if s.line.skipping then s
  else
    match readFrame bytes with
    | .overlong => s.withLine { s.line with skipping := true }
    | .bad => s
    | .frame f => takeFrame f s

/-- The line falls idle (R18). -/
def fallIdle (s : State) : State := s.withLine { s.line with skipping := false }

/-! ## Contention and attempts -/

/-- The place of the frame that R9 offers: lowest class, then earliest. -/
def choosePlace (queue : List QueuedFrame) : Option Nat :=
  queue.findIdx? fun q => queue.all fun r => decide (q.frame.cls.toNat ≤ r.frame.cls.toNat)

/-- Another station's bytes carry a lower arbitration key than the frame (R3). -/
def defeats (rival : List Byte) (f : Frame) : Bool :=
  match rival with
  | key :: _ => decide (key.toNat < f.arbitrationByte.toNat)
  | [] => false

/-- The station contends for the line (R3, R13; log 13). A frame that defeats it is taken by the receive path. -/
def contend (rival : List Byte) (s : State) : State :=
  if s.line.state = .active ∧ s.line.attempt = none ∧ s.line.skipping = false then
    match choosePlace s.line.queue with
    | none => s
    | some i =>
      match s.line.queue[i]? with
      | none => s
      | some q => if defeats rival q.frame then receive rival s else s.withLine { s.line with attempt := some i }
  else s

/-- The held beacon update is offered anew (R12). -/
def offerHeld (held : Option (List Byte)) (s : State) : State :=
  match held with
  | some payload => offerBeacon payload s
  | none => s

/-- The queue without the frame at place `i`, no attempt in progress, no held update. -/
def withoutFrame (i : Nat) (s : State) : State :=
  s.withLine { s.line with queue := s.line.queue.eraseIdx i, attempt := none, heldUpdate := none }

/-- The attempt has sent the frame whole (R12, R14). -/
def attemptSends (s : State) : State :=
  match s.line.attempt with
  | none => s
  | some i => offerHeld s.line.heldUpdate (withoutFrame i s)

/-- A failed frame kept for its next attempt: its count rises, and a held beacon update rewrites it (R12, R14). -/
def retried (held : Option (List Byte)) (q : QueuedFrame) : QueuedFrame :=
  let counted := { q with attempts := q.attempts + 1 }
  match held with
  | some payload => rewritten payload counted
  | none => counted

/-- The attempt fails with a line fault (R14, R15). -/
def attemptFails (s : State) : State :=
  match s.line.attempt with
  | none => s
  | some i =>
    match s.line.queue[i]? with
    | none => s.withLine { s.line with attempt := none, heldUpdate := none }
    | some q =>
      if Config.maxRetries ≤ q.attempts then
        offerHeld s.line.heldUpdate (recordFailure (failureOf .lineFault q.frame) (withoutFrame i s))
      else
        s.withLine
          { s.line with
            queue := s.line.queue.modify i (retried s.line.heldUpdate)
            attempt := none
            heldUpdate := none }

/-! ## Beacons of this station -/

/-- The 5 s of LISTEN run out (R5, R23). -/
def listenEnds (s : State) : State :=
  if s.line.state = .listen ∧ sourceOk s.line.address = true then
    let t := s.withLine { s.line with state := .active }
    offerOwnBeacon (t.withPeers { t.peers with beaconTimer := some (s.now + Config.beaconPeriod) })
  else s

/-- The beacon period timer runs out (R23). -/
def periodEnds (s : State) : State :=
  if s.line.state = .active ∧ s.peers.beaconTimer.isSome = true then
    offerOwnBeacon (s.withPeers { s.peers with beaconTimer := some (s.now + Config.beaconPeriod) })
  else s

end Sys2Proof.Machine
end

