-- ==== Sys2Proof/Machine/Settle.lean ====
section
/-! DEFINITION. What follows a command within the same event: Shared Duty's evaluations (R162), the change watch (R24)
and the write of a newly marked record (R178). Each looks at what the command has changed. -/

namespace Sys2Proof.Machine

/-- What a peer record shows Shared Duty (R28, R32). -/
structure WatchedPeer where
  address : BitVec 5
  lamp : LampState
  offer : Option Nat
  cause : LitCause
  declined : Bool
  wearKey : Nat
  summary : BitVec 16
  deriving DecidableEq, Repr

/-- The watched fields of a peer record (R28). -/
def watchedPeer (r : PeerRecord) : WatchedPeer :=
  { address := r.address, lamp := r.beacon.lamp, offer := r.beacon.offer, cause := r.beacon.cause,
    declined := r.beacon.declined, wearKey := r.beacon.wearKey, summary := r.beacon.summary }

/-- Everything whose change raises an evaluation of Shared Duty (R162). -/
structure DutySources where
  peers : List (Option WatchedPeer)
  lamp : LampState
  cause : LitCause
  conditions : BitVec 9
  life : LifeState
  wearKey : Nat
  declined : Bool
  line : LineState
  group : Option Nat
  demand : Option Nat
  deriving DecidableEq, Repr

/-- The sources of Shared Duty's evaluations as they stand (R162). -/
def State.dutySources (s : State) : DutySources :=
  { peers := s.peers.table.toList.map (Option.map watchedPeer), lamp := s.lamp.state, cause := s.lamp.cause,
    conditions := s.conditions, life := s.life, wearKey := s.wearKey, declined := s.duty.declined,
    line := s.line.state, group := s.duty.entryGroup, demand := s.duty.entryDemand }

/-- Shared Duty evaluates when a source of its evaluations has changed (R162; log 5). -/
def dutyWatch (before s : State) : State :=
  if s.dutySources = before.dutySources then s else evaluate s

/-- The change watch (R24; log 4): in ACTIVE, a changed beacon that differs from the last offered image is offered. -/
def changeWatch (before s : State) : State :=
  if s.line.state = .active ∧ s.beaconNow ≠ before.beaconNow ∧ s.peers.image ≠ some s.beaconNow then offerOwnBeacon s
  else s

/-- A newly marked record is written when nothing is in flight (R178). The write begins once, at the end of the command, so
two marks of one record in one event give one write (log 29). -/
def writeWatch (before s : State) : State :=
  if s.store.list = before.store.list then s else beginWrite s

/-- What follows a command, from the state before it and the state it leaves. -/
def settle (before after : State) : State :=
  let evaluated := dutyWatch before after
  writeWatch before (changeWatch before evaluated)

/-- A command's outcome: its effect and what follows, once reset is released (R184; log 1). The model's choice (log 7):
while reset is held IGNITION and DROPOUT are ignored like the rest, so the lamp-on sense keeps its level until the
release. -/
def command (f : State → State) (s : State) : Host.Outcome State Fault Refusal :=
  .next (if s.released then settle s (f s) else s)

/-- A step on an empty queue: one millisecond passes, once reset is released (log 3). -/
def idle (s : State) : State := if s.released then { s with now := s.now + 1 } else s

end Sys2Proof.Machine
end

