-- ==== Sys2Proof/Machine/EventCommands.lean ====
section
/-! DEFINITION. The meaning of each command of the lamp, the switcher, the warp engine, the minute, Shared Duty and the Store, one definition a command. -/

namespace Sys2Proof.Machine

/-- A pending restart's reset, once its ANSWER has departed and nothing waits to be written (R183). -/
def execRestartReset (s : State) : Host.Outcome State Fault Refusal :=
  .next (if s.released && s.restartReady then enterReset s else s)

/-- The lamp second of a tick, in WARMUP and LIT alone (R72). -/
def reportSecond (s : State) : State := if lampBurning s.lamp.state then lampSecond s else s

/-- What a tick does, in the manual's sequence (R69): extinction count, lamp second, sample; then the clock (R143) and the
count towards the minute tick (R137). -/
def tick (sample : Int) (s : State) : State :=
  countSecond (advanceClock (takeSample sample (reportSecond (advanceExtinction s))))

/-- The one-second tick (R69, R72, R143, R137): the seconds since extinction rise, the lamp second is reported, the housing
sample is taken and the clock advances; what stands after it is kept for the next lamp second. -/
def execOneSecondTick (sample : Int) (s : State) : Host.Outcome State Fault Refusal :=
  .next (if s.released then keepTick (settle s (tick sample s)) else s)

/-- The PREHEAT timer runs out (R52). -/
def execPreheatTimer (s : State) : Host.Outcome State Fault Refusal := command preheatEnds s

/-- An ignite attempt runs out without the sense (R54). -/
def execAttemptRunsOut (s : State) : Host.Outcome State Fault Refusal := command attemptEnds s

/-- The gap between attempts runs out (R52). -/
def execGapRunsOut (s : State) : Host.Outcome State Fault Refusal := command gapEnds s

/-- The lamp-on sense appears (R53). -/
def execIgnition (s : State) : Host.Outcome State Fault Refusal := command senseAppears s

/-- The lamp-on sense is lost (R56). -/
def execDropout (s : State) : Host.Outcome State Fault Refusal := command senseLost s

/-- The WARMUP timer runs out (R55). -/
def execWarmupTimer (s : State) : Host.Outcome State Fault Refusal := command warmupEnds s

/-- The COOLDOWN timer runs out (R58). -/
def execCooldownTimer (s : State) : Host.Outcome State Fault Refusal := command cooldownEnds s

/-- The switcher reports a lock (R100). -/
def execLockReport (port : Nat) (s : State) : Host.Outcome State Fault Refusal := command (switcherLocks port) s

/-- The switch timer runs out (R101). -/
def execSwitchTimer (s : State) : Host.Outcome State Fault Refusal := command switchEnds s

/-- The switcher reports signal presence (R102). -/
def execSignalPresenceReport (port : Nat) (present : Bool) (s : State) : Host.Outcome State Fault Refusal :=
  command (takeSignal port present) s

/-- The search timer runs out (R103). -/
def execSearchTimer (s : State) : Host.Outcome State Fault Refusal := command searchEnds s

/-- The warp engine reports APPLIED (R120). -/
def execApplied (number : Byte) (s : State) : Host.Outcome State Fault Refusal := command (takeApplied number.toNat) s

/-- The handoff timer runs out (R121). -/
def execHandoffTimer (s : State) : Host.Outcome State Fault Refusal := command handoffEnds s

/-- The minute tick (R137). -/
def execMinuteTick (s : State) : Host.Outcome State Fault Refusal := command takeMinuteTick s

/-- The clock has crossed a minute boundary (R153). -/
def execMinuteBoundary (s : State) : Host.Outcome State Fault Refusal := command takeBoundary s

/-- The strike holdoff runs out (R167). -/
def execStrikeHoldoff (s : State) : Host.Outcome State Fault Refusal := command holdoffEnds s

/-- The memory answers a READ (R180). -/
def execReadAnswered (bytes : List Byte) (s : State) : Host.Outcome State Fault Refusal := command (readEnds bytes) s

/-- A READ is not answered in time (R180). -/
def execReadTimeout (s : State) : Host.Outcome State Fault Refusal := command readFails s

/-- The memory confirms a WRITE (R178, R179). -/
def execWriteConfirmed (s : State) (late : Bool := false) : Host.Outcome State Fault Refusal :=
  command (writeConfirms late) s

/-- The write in flight is not confirmed in time (R179). -/
def execWriteTimeout (s : State) : Host.Outcome State Fault Refusal := command writeFails s

end Sys2Proof.Machine
end

