-- ==== Sys2Proof/Machine/LineCommands.lean ====
section
/-! DEFINITION. The meaning of each command of the hall line, the peer table and the resets, one definition a command. -/

namespace Sys2Proof.Machine

/-- Power is applied: every block takes its reset state (R183). -/
def execPowerOn (s : State) : Host.Outcome State Fault Refusal := .next (enterReset s)

/-- The reset pin acts at once: every block takes its reset state (R183). -/
def execResetPin (s : State) : Host.Outcome State Fault Refusal := .next (enterReset s)

/-- Reset is released: the straps are sampled and the load begins; a part already released is not released again (R184). -/
def execResetRelease (address : BitVec 5) (timeReference : Bool) (s : State) : Host.Outcome State Fault Refusal :=
  .next (if s.released then s else releaseReset address timeReference s)

/-- The 5 s of LISTEN run out (R5). -/
def execListenEnd (s : State) : Host.Outcome State Fault Refusal := command listenEnds s

/-- The station contends with the frame that R9 chooses (R13). -/
def execContendForLine (rival : List Byte) (s : State) : Host.Outcome State Fault Refusal := command (contend rival) s

/-- The attempt reads back whole: the frame leaves the queue (R14). -/
def execFrameSent (s : State) : Host.Outcome State Fault Refusal := command attemptSends s

/-- A read-back byte differs: the attempt fails (R14). -/
def execLineFault (s : State) : Host.Outcome State Fault Refusal := command attemptFails s

/-- A BEACON frame reaches the receive path (R27). -/
def execBeaconReceived (frame : List Byte) (s : State) : Host.Outcome State Fault Refusal := command (receive frame) s

/-- A CLOCK frame reaches the receive path (R144). -/
def execClockReceived (frame : List Byte) (s : State) : Host.Outcome State Fault Refusal := command (receive frame) s

/-- A CUE frame reaches the receive path (R110). -/
def execCueReceived (frame : List Byte) (s : State) : Host.Outcome State Fault Refusal := command (receive frame) s

/-- A frame the receive path discards, or whose arrival is a clash (R18). -/
def execFrameDiscarded (frame : List Byte) (s : State) : Host.Outcome State Fault Refusal := command (receive frame) s

/-- The beacon period timer runs out (R23). -/
def execBeaconPeriod (s : State) : Host.Outcome State Fault Refusal := command periodEnds s

/-- A peer record reaches 7 s (R31). -/
def execPeerAgeOut (address : BitVec 5) (s : State) : Host.Outcome State Fault Refusal := command (agePeer address) s

/-- The hall line falls idle (R18). -/
def execLineFallsIdle (s : State) : Host.Outcome State Fault Refusal := command fallIdle s

end Sys2Proof.Machine
end

