-- ==== Sys2Proof/Machine/OrderCommands.lean ====
section
/-! DEFINITION. The meaning of each command of the orders and the key events, one definition a command. -/

namespace Sys2Proof.Machine

/-- An ORDER of an unknown code (R36). -/
def execUnknownOrder (code : Byte) (order : OrderFrame) (s : State) : Host.Outcome State Fault Refusal :=
  command (receiveOrder code order) s

/-- The LIGHT order (R60). -/
def execLight (order : OrderFrame) (s : State) : Host.Outcome State Fault Refusal :=
  command (receiveOrder (OrderKind.code .light) order) s

/-- The REST order (R62). -/
def execRest (order : OrderFrame) (s : State) : Host.Outcome State Fault Refusal :=
  command (receiveOrder (OrderKind.code .rest) order) s

/-- The SET MODE order (R67). -/
def execSetMode (order : OrderFrame) (s : State) : Host.Outcome State Fault Refusal :=
  command (receiveOrder (OrderKind.code .setMode) order) s

/-- The SHOW order (R108). -/
def execShowPicture (order : OrderFrame) (s : State) : Host.Outcome State Fault Refusal :=
  command (receiveOrder (OrderKind.code .showPicture) order) s

/-- The BLANK order (R108). -/
def execBlank (order : OrderFrame) (s : State) : Host.Outcome State Fault Refusal :=
  command (receiveOrder (OrderKind.code .blank) order) s

/-- The SELECT order (R98). -/
def execSelect (order : OrderFrame) (s : State) : Host.Outcome State Fault Refusal :=
  command (receiveOrder (OrderKind.code .select) order) s

/-- The ALIAS WRITE order (R94). -/
def execAliasWrite (order : OrderFrame) (s : State) : Host.Outcome State Fault Refusal :=
  command (receiveOrder (OrderKind.code .aliasWrite) order) s

/-- The ALIAS CLEAR order (R95). -/
def execAliasClear (order : OrderFrame) (s : State) : Host.Outcome State Fault Refusal :=
  command (receiveOrder (OrderKind.code .aliasClear) order) s

/-- The SET KEYSTONE order (R115). -/
def execSetKeystone (order : OrderFrame) (s : State) : Host.Outcome State Fault Refusal :=
  command (receiveOrder (OrderKind.code .setKeystone) order) s

/-- The NUDGE KEYSTONE order (R116). -/
def execNudgeKeystone (order : OrderFrame) (s : State) : Host.Outcome State Fault Refusal :=
  command (receiveOrder (OrderKind.code .nudgeKeystone) order) s

/-- The STORE PRESET order (R123). -/
def execStorePreset (order : OrderFrame) (s : State) : Host.Outcome State Fault Refusal :=
  command (receiveOrder (OrderKind.code .storePreset) order) s

/-- The RECALL PRESET order (R124). -/
def execRecallPreset (order : OrderFrame) (s : State) : Host.Outcome State Fault Refusal :=
  command (receiveOrder (OrderKind.code .recallPreset) order) s

/-- The LOCK order (R134). -/
def execLock (order : OrderFrame) (s : State) : Host.Outcome State Fault Refusal :=
  command (receiveOrder (OrderKind.code .lock) order) s

/-- The UNLOCK order (R135). -/
def execUnlock (order : OrderFrame) (s : State) : Host.Outcome State Fault Refusal :=
  command (receiveOrder (OrderKind.code .unlock) order) s

/-- The UNLOCK ALL order (R136). -/
def execUnlockAll (order : OrderFrame) (s : State) : Host.Outcome State Fault Refusal :=
  command (receiveOrder (OrderKind.code .unlock) order) s

/-- The ENTRY WRITE order (R149). -/
def execEntryWrite (order : OrderFrame) (s : State) : Host.Outcome State Fault Refusal :=
  command (receiveOrder (OrderKind.code .entryWrite) order) s

/-- The ENTRY CLEAR order (R150). -/
def execEntryClear (order : OrderFrame) (s : State) : Host.Outcome State Fault Refusal :=
  command (receiveOrder (OrderKind.code .entryClear) order) s

/-- The TIME SET order (R145). -/
def execTimeSet (order : OrderFrame) (s : State) : Host.Outcome State Fault Refusal :=
  command (receiveOrder (OrderKind.code .timeSet) order) s

/-- The ACKNOWLEDGE order (R176). -/
def execAcknowledge (order : OrderFrame) (s : State) : Host.Outcome State Fault Refusal :=
  command (receiveOrder (OrderKind.code .acknowledge) order) s

/-- The QUERY STATUS order (R21). -/
def execQueryStatus (order : OrderFrame) (s : State) : Host.Outcome State Fault Refusal :=
  command (receiveOrder (OrderKind.code .query) order) s

/-- The QUERY WEAR order (R92). -/
def execQueryWear (order : OrderFrame) (s : State) : Host.Outcome State Fault Refusal :=
  command (receiveOrder (OrderKind.code .query) order) s

/-- The QUERY ALIAS order (R112). -/
def execQueryAlias (order : OrderFrame) (s : State) : Host.Outcome State Fault Refusal :=
  command (receiveOrder (OrderKind.code .query) order) s

/-- The QUERY ENTRY order (R158). -/
def execQueryEntry (order : OrderFrame) (s : State) : Host.Outcome State Fault Refusal :=
  command (receiveOrder (OrderKind.code .query) order) s

/-- The QUERY LOCKS order (R141). -/
def execQueryLocks (order : OrderFrame) (s : State) : Host.Outcome State Fault Refusal :=
  command (receiveOrder (OrderKind.code .query) order) s

/-- The QUERY PEER order (R34). -/
def execQueryPeer (order : OrderFrame) (s : State) : Host.Outcome State Fault Refusal :=
  command (receiveOrder (OrderKind.code .query) order) s

/-- The QUERY CONDITIONS order (R45). -/
def execQueryConditions (order : OrderFrame) (s : State) : Host.Outcome State Fault Refusal :=
  command (receiveOrder (OrderKind.code .query) order) s

/-- The QUERY GEOMETRY order (R129). -/
def execQueryGeometry (order : OrderFrame) (s : State) : Host.Outcome State Fault Refusal :=
  command (receiveOrder (OrderKind.code .query) order) s

/-- The QUERY PRESET order (R129). -/
def execQueryPreset (order : OrderFrame) (s : State) : Host.Outcome State Fault Refusal :=
  command (receiveOrder (OrderKind.code .query) order) s

/-- The QUERY CLOCK order (R158). -/
def execQueryClock (order : OrderFrame) (s : State) : Host.Outcome State Fault Refusal :=
  command (receiveOrder (OrderKind.code .query) order) s

/-- The QUERY SETTINGS order (R45). -/
def execQuerySettings (order : OrderFrame) (s : State) : Host.Outcome State Fault Refusal :=
  command (receiveOrder (OrderKind.code .query) order) s

/-- The WEAR RESET order (R86). -/
def execWearReset (order : OrderFrame) (s : State) : Host.Outcome State Fault Refusal :=
  command (receiveOrder (OrderKind.code .wearReset) order) s

/-- The SETTINGS WRITE order (R182). -/
def execSettingsWrite (order : OrderFrame) (s : State) : Host.Outcome State Fault Refusal :=
  command (receiveOrder (OrderKind.code .settingsWrite) order) s

/-- The RESTART order (R183). -/
def execRestart (order : OrderFrame) (s : State) : Host.Outcome State Fault Refusal :=
  command (receiveOrder (OrderKind.code .restart) order) s

/-- The POWER key (R47). -/
def execPowerKey (s : State) : Host.Outcome State Fault Refusal := command pressPower s

/-- The SOURCE key (R47). -/
def execSourceKey (s : State) : Host.Outcome State Fault Refusal := command pressSource s

/-- The BLANK key (R47). -/
def execBlankKey (s : State) : Host.Outcome State Fault Refusal := command pressBlank s

/-- The V+ or V− key (R47). -/
def execVKey (plus : Bool) (s : State) : Host.Outcome State Fault Refusal := command (pressKeystone 0 plus) s

/-- The H+ or H− key (R47). -/
def execHKey (plus : Bool) (s : State) : Host.Outcome State Fault Refusal := command (pressKeystone 1 plus) s

/-- The 1 s of REFUSED runs out (R48). -/
def execRefusedTimeout (s : State) : Host.Outcome State Fault Refusal := command refusedEnds s

end Sys2Proof.Machine
end

