-- ==== Sys2Proof/Machine/Dispatch.lean ====
section
/-! DEFINITION. One arm for each command, each one call of its meaning. -/

namespace Sys2Proof.Machine

def exec (i : Instr) (s : State) : Host.Outcome State Fault Refusal :=
  match i with
  | .powerOn => Sys2Proof.Machine.execPowerOn s
  | .resetPin => Sys2Proof.Machine.execResetPin s
  | .resetRelease address timeReference => Sys2Proof.Machine.execResetRelease address timeReference s
  | .listenEnd => Sys2Proof.Machine.execListenEnd s
  | .contendForLine rival => Sys2Proof.Machine.execContendForLine rival s
  | .frameSent => Sys2Proof.Machine.execFrameSent s
  | .lineFault => Sys2Proof.Machine.execLineFault s
  | .beaconReceived frame => Sys2Proof.Machine.execBeaconReceived frame s
  | .clockReceived frame => Sys2Proof.Machine.execClockReceived frame s
  | .cueReceived frame => Sys2Proof.Machine.execCueReceived frame s
  | .frameDiscarded frame => Sys2Proof.Machine.execFrameDiscarded frame s
  | .unknownOrder code order => Sys2Proof.Machine.execUnknownOrder code order s
  | .light order => Sys2Proof.Machine.execLight order s
  | .rest order => Sys2Proof.Machine.execRest order s
  | .setMode order => Sys2Proof.Machine.execSetMode order s
  | .showPicture order => Sys2Proof.Machine.execShowPicture order s
  | .blank order => Sys2Proof.Machine.execBlank order s
  | .select order => Sys2Proof.Machine.execSelect order s
  | .aliasWrite order => Sys2Proof.Machine.execAliasWrite order s
  | .aliasClear order => Sys2Proof.Machine.execAliasClear order s
  | .setKeystone order => Sys2Proof.Machine.execSetKeystone order s
  | .nudgeKeystone order => Sys2Proof.Machine.execNudgeKeystone order s
  | .storePreset order => Sys2Proof.Machine.execStorePreset order s
  | .recallPreset order => Sys2Proof.Machine.execRecallPreset order s
  | .lock order => Sys2Proof.Machine.execLock order s
  | .unlock order => Sys2Proof.Machine.execUnlock order s
  | .unlockAll order => Sys2Proof.Machine.execUnlockAll order s
  | .entryWrite order => Sys2Proof.Machine.execEntryWrite order s
  | .entryClear order => Sys2Proof.Machine.execEntryClear order s
  | .timeSet order => Sys2Proof.Machine.execTimeSet order s
  | .acknowledge order => Sys2Proof.Machine.execAcknowledge order s
  | .queryStatus order => Sys2Proof.Machine.execQueryStatus order s
  | .queryWear order => Sys2Proof.Machine.execQueryWear order s
  | .queryAlias order => Sys2Proof.Machine.execQueryAlias order s
  | .queryEntry order => Sys2Proof.Machine.execQueryEntry order s
  | .queryLocks order => Sys2Proof.Machine.execQueryLocks order s
  | .queryPeer order => Sys2Proof.Machine.execQueryPeer order s
  | .queryConditions order => Sys2Proof.Machine.execQueryConditions order s
  | .queryGeometry order => Sys2Proof.Machine.execQueryGeometry order s
  | .queryPreset order => Sys2Proof.Machine.execQueryPreset order s
  | .queryClock order => Sys2Proof.Machine.execQueryClock order s
  | .querySettings order => Sys2Proof.Machine.execQuerySettings order s
  | .wearReset order => Sys2Proof.Machine.execWearReset order s
  | .settingsWrite order => Sys2Proof.Machine.execSettingsWrite order s
  | .restart order => Sys2Proof.Machine.execRestart order s
  | .restartReset => Sys2Proof.Machine.execRestartReset s
  | .powerKey => Sys2Proof.Machine.execPowerKey s
  | .sourceKey => Sys2Proof.Machine.execSourceKey s
  | .blankKey => Sys2Proof.Machine.execBlankKey s
  | .vKey plus => Sys2Proof.Machine.execVKey plus s
  | .hKey plus => Sys2Proof.Machine.execHKey plus s
  | .refusedTimeout => Sys2Proof.Machine.execRefusedTimeout s
  | .beaconPeriod => Sys2Proof.Machine.execBeaconPeriod s
  | .peerAgeOut address => Sys2Proof.Machine.execPeerAgeOut address s
  | .oneSecondTick sample => Sys2Proof.Machine.execOneSecondTick sample s
  | .preheatTimer => Sys2Proof.Machine.execPreheatTimer s
  | .attemptRunsOut => Sys2Proof.Machine.execAttemptRunsOut s
  | .gapRunsOut => Sys2Proof.Machine.execGapRunsOut s
  | .ignition => Sys2Proof.Machine.execIgnition s
  | .dropout => Sys2Proof.Machine.execDropout s
  | .warmupTimer => Sys2Proof.Machine.execWarmupTimer s
  | .cooldownTimer => Sys2Proof.Machine.execCooldownTimer s
  | .lockReport port => Sys2Proof.Machine.execLockReport port s
  | .switchTimer => Sys2Proof.Machine.execSwitchTimer s
  | .signalPresenceReport port present => Sys2Proof.Machine.execSignalPresenceReport port present s
  | .searchTimer => Sys2Proof.Machine.execSearchTimer s
  | .applied number => Sys2Proof.Machine.execApplied number s
  | .handoffTimer => Sys2Proof.Machine.execHandoffTimer s
  | .minuteTick => Sys2Proof.Machine.execMinuteTick s
  | .minuteBoundary => Sys2Proof.Machine.execMinuteBoundary s
  | .strikeHoldoff => Sys2Proof.Machine.execStrikeHoldoff s
  | .readAnswered bytes => Sys2Proof.Machine.execReadAnswered bytes s
  | .readTimeout => Sys2Proof.Machine.execReadTimeout s
  | .writeConfirmed late => Sys2Proof.Machine.execWriteConfirmed s late
  | .writeTimeout => Sys2Proof.Machine.execWriteTimeout s
  | .lineFallsIdle => Sys2Proof.Machine.execLineFallsIdle s

end Sys2Proof.Machine
end

