-- ==== Sys2Proof/Safety.lean ====
section
/-! DEFINITION. The words in which claims about the part are stated: when an order reaches its owner, what may follow a
command within its event, when a run-out is timely, and the laws that every step keeps. -/

namespace Sys2Proof.Machine

/-! ## Orders on their way to their owner -/

/-- The order kind and the frame of a command that is an ORDER of a known code. -/
def orderCarried : Instr → Option (OrderKind × OrderFrame)
  | .light o => some (.light, o)
  | .rest o => some (.rest, o)
  | .setMode o => some (.setMode, o)
  | .showPicture o => some (.showPicture, o)
  | .blank o => some (.blank, o)
  | .select o => some (.select, o)
  | .aliasWrite o => some (.aliasWrite, o)
  | .aliasClear o => some (.aliasClear, o)
  | .setKeystone o => some (.setKeystone, o)
  | .nudgeKeystone o => some (.nudgeKeystone, o)
  | .storePreset o => some (.storePreset, o)
  | .recallPreset o => some (.recallPreset, o)
  | .lock o => some (.lock, o)
  | .unlock o => some (.unlock, o)
  | .unlockAll o => some (.unlock, o)
  | .entryWrite o => some (.entryWrite, o)
  | .entryClear o => some (.entryClear, o)
  | .timeSet o => some (.timeSet, o)
  | .acknowledge o => some (.acknowledge, o)
  | .queryStatus o => some (.query, o)
  | .queryWear o => some (.query, o)
  | .queryAlias o => some (.query, o)
  | .queryEntry o => some (.query, o)
  | .queryLocks o => some (.query, o)
  | .queryPeer o => some (.query, o)
  | .queryConditions o => some (.query, o)
  | .queryGeometry o => some (.query, o)
  | .queryPreset o => some (.query, o)
  | .queryClock o => some (.query, o)
  | .querySettings o => some (.query, o)
  | .wearReset o => some (.wearReset, o)
  | .settingsWrite o => some (.settingsWrite, o)
  | .restart o => some (.restart, o)
  | .powerOn => none
  | .resetPin => none
  | .resetRelease _ _ => none
  | .listenEnd => none
  | .contendForLine _ => none
  | .frameSent => none
  | .lineFault => none
  | .beaconReceived _ => none
  | .clockReceived _ => none
  | .cueReceived _ => none
  | .frameDiscarded _ => none
  | .unknownOrder _ _ => none
  | .restartReset => none
  | .powerKey => none
  | .sourceKey => none
  | .blankKey => none
  | .vKey _ => none
  | .hKey _ => none
  | .refusedTimeout => none
  | .beaconPeriod => none
  | .peerAgeOut _ => none
  | .oneSecondTick _ => none
  | .preheatTimer => none
  | .attemptRunsOut => none
  | .gapRunsOut => none
  | .ignition => none
  | .dropout => none
  | .warmupTimer => none
  | .cooldownTimer => none
  | .lockReport _ => none
  | .switchTimer => none
  | .signalPresenceReport _ _ => none
  | .searchTimer => none
  | .applied _ => none
  | .handoffTimer => none
  | .minuteTick => none
  | .minuteBoundary => none
  | .strikeHoldoff => none
  | .readAnswered _ => none
  | .readTimeout => none
  | .writeConfirmed _ => none
  | .writeTimeout => none
  | .lineFallsIdle => none

/-- Reset is released and the receive path takes an ORDER frame of another station in ACTIVE (R18 to R20, R35). -/
structure Delivered (o : OrderFrame) (s : State) : Prop where
  released : s.released = true
  taking : s.line.skipping = false
  source : sourceOk o.source = true
  dest : destOk o.dest = true
  other : o.source ≠ s.line.address
  active : s.line.state = .active

/-- The order is a direct one, which is answered (R35). -/
def State.direct (s : State) (o : OrderFrame) : Bool := s.destined o.dest == .direct

/-- The order is addressed so that the station judges it (R35, R36): directly, or, for a kind that is not direct-only, to
a group of its own or to all. -/
def State.judges (s : State) (kind : OrderKind) (o : OrderFrame) : Prop :=
  s.destined o.dest = .direct ∨ (s.destined o.dest = .shared ∧ orderDirectOnly kind = false)

/-- The order reaches its owner: it is delivered, addressed here, and passes form, ranges and lockout (R35 to R39). -/
structure Reaches (kind : OrderKind) (o : OrderFrame) (s : State) : Prop where
  delivered : Delivered o s
  judged : s.judges kind o
  passed : orderRefusal kind o.authority.toNat o.args s = none

/-- The key input's order of the given kind passes the lockout check at the keypad authority (R46). -/
def State.keyPasses (s : State) (kind : OrderKind) : Prop :=
  s.lockoutCheck s.store.settings.keypadAuthority (orderMinAuthority kind) (orderLockable kind) = none

/-! ## What may follow a command within its event -/

/-- A queued frame that is no BEACON. -/
def notBeacon (q : QueuedFrame) : Bool := q.frame.kind != .beacon

/-- The change watch has something to offer: in ACTIVE the beacon of `t` differs from that of `before`, and from the last
offered image that `u` holds (R24; log 4). -/
def watchOffers (before u t : State) : Prop :=
  u.line.state = .active ∧ t.beaconNow ≠ before.beaconNow ∧ u.peers.image ≠ some t.beaconNow

/-- The records `u` has marked, and the wear record too where what follows `u` in the event is a release of a burning lamp,
an extinction (R66, R88). -/
def markedBy (u t : State) : State :=
  if lampBurning u.lamp.state = true ∧ t.lamp.state = .cooldown then mark .wear u else u

/-- `t` is `u` after what follows a command in the same event. `before` is the state the command met.
Shared Duty evaluates when a source of its evaluations has changed (R162); the change watch offers the beacon that then
stands (R24); a newly marked record's write begins when none is in flight (R178). Nothing else changes, and where the
command changed nothing that the three look at, `t` is `u`. -/
structure Followed (before u t : State) : Prop where
  pending : t.pending = u.pending
  released : t.released = u.released
  now : t.now = u.now
  refusedTimer : t.refusedTimer = u.refusedTimer
  router : t.router = u.router
  geometry : t.geometry = u.geometry
  lockout : t.lockout = u.lockout
  schedule : t.schedule = u.schedule
  conditions : t.conditions = u.conditions
  /-- Shared Duty has nothing to look at. -/
  quietDuty : u.dutySources = before.dutySources → t.lamp = u.lamp ∧ t.wear = u.wear ∧ t.duty = u.duty
  /-- Shared Duty evaluates. -/
  evaluated : u.dutySources ≠ before.dutySources →
    t.lamp = (evaluate u).lamp ∧ t.wear = (evaluate u).wear ∧ t.duty = (evaluate u).duty
  /-- All that an evaluation can do: set offer and holdoff, strike a dark lamp, release a lamp lit by the schedule. -/
  duty : t.duty = { u.duty with offer := t.duty.offer, holdoff := t.duty.holdoff }
  wear : t.wear = u.wear ∨
    (lampBurning u.lamp.state = true ∧ u.lamp.cause = .schedule ∧
      t.wear = { u.wear with sinceExtinction := some 0 })
  lamp : t.lamp = u.lamp ∨
    (u.lamp.state = .dark ∧ u.barred = false ∧ t.lamp = (enterPreheat .schedule u).lamp) ∨
    (lampOn u.lamp.state = true ∧ u.lamp.cause = .schedule ∧ t.lamp = (enterCooldown u).lamp)
  /-- The change watch offers the beacon of `t`, which is then the last offered image. -/
  offered : watchOffers before u t →
    t.line = (offerBeacon t.beaconNow u).line ∧ t.peers = { u.peers with image := some t.beaconNow }
  /-- The change watch offers nothing. -/
  quietLine : ¬ watchOffers before u t → t.line = u.line ∧ t.peers = u.peers
  /-- Either way every frame of the queue but its BEACON stays. -/
  frames : t.line.queue.filter notBeacon = u.line.queue.filter notBeacon
  /-- No record is newly marked. -/
  quietStore : (markedBy u t).store.list = before.store.list → t.store = (markedBy u t).store
  /-- A record is newly marked: its write begins when none is in flight. -/
  written : (markedBy u t).store.list ≠ before.store.list → t.store = (beginWrite (markedBy u t)).store

/-- The order code and tag of an ANSWER, which the failure log keeps; none for another kind (R16). -/
def answerCodeTag (f : Frame) : Option (Byte × Byte) :=
  if f.kind = .answer then
    match f.payload with
    | code :: tag :: _ => some (code, tag)
    | _ => none
  else none

/-- The command answers a next state: the given effect, and what follows it in the same event. -/
def Effects (c : Instr) (s u : State) : Prop := ∃ t, exec c s = .next t ∧ Followed s u t

/-! ## Timely run-outs (log 3) -/

/-- A run-out command comes no sooner than its timer's length after the timer's start, a reset's end of LISTEN no sooner
than 5 s after its release, and an answer to a READ no later than its 50 ms. Other commands may come at any time. -/
def State.timely (s : State) : Instr → Bool
  | .listenEnd => decide (Config.listenTime ≤ s.now)
  | .beaconPeriod => runsOut s s.peers.beaconTimer
  | .refusedTimeout => runsOut s s.refusedTimer
  | .peerAgeOut a => s.peers.table.toList.any fun p =>
      match p with
      | some r => r.address == a && decide (r.heardAt + Config.peerLife ≤ s.now)
      | none => false
  | .preheatTimer => s.lamp.state == .preheat && runsOut s s.lamp.timer
  | .attemptRunsOut => s.lamp.state == .ignite && !s.lamp.inGap && runsOut s s.lamp.timer
  | .gapRunsOut => s.lamp.state == .ignite && s.lamp.inGap && runsOut s s.lamp.timer
  | .warmupTimer => s.lamp.state == .warmup && runsOut s s.lamp.timer
  | .cooldownTimer => s.lamp.state == .cooldown && runsOut s s.lamp.timer
  | .switchTimer => runsOut s s.router.switchTimer
  | .searchTimer => runsOut s s.router.searchTimer
  | .handoffTimer => runsOut s s.geometry.timer
  | .strikeHoldoff => runsOut s (s.duty.holdoff.map Holdoff.due)
  | .readAnswered _ => s.readInTime
  | .readTimeout => runsOut s s.store.readTimer
  | .writeTimeout => runsOut s (s.store.inFlight.map WriteInFlight.due)
  | .minuteTick => s.lockout.minuteDue
  | .minuteBoundary => s.schedule.boundaryDue.isSome
  | _ => true

/-! ## Laws that every step keeps -/

/-- The queued frame is a BEACON (R9). -/
def QueuedFrame.isBeacon (q : QueuedFrame) : Bool := q.frame.kind == .beacon

/-- The transmit queue's law (R9, R6, R8, R12): at most 8 frames, at most one BEACON, attempt counts to 3; empty outside
ACTIVE; an attempt is on a queued frame, and a held update exists only while that frame is the BEACON. -/
structure QueueLaw (l : Line) : Prop where
  room : l.queue.length ≤ Config.queueSize
  oneBeacon : l.queue.countP QueuedFrame.isBeacon ≤ 1
  counts : ∀ q ∈ l.queue, q.attempts ≤ Config.maxRetries
  silent : l.state ≠ .active → l.queue = [] ∧ l.attempt = none ∧ l.heldUpdate = none
  onWire : ∀ i, l.attempt = some i → i < l.queue.length
  held : l.heldUpdate ≠ none → ∃ i q, l.attempt = some i ∧ l.queue[i]? = some q ∧ q.isBeacon = true

/-- The failure log's law (R16, R17): it holds a record exactly while TRANSMIT FAILED is latched, and the overflow flag is
set only beside a record. -/
structure LogLaw (s : State) : Prop where
  exactly : s.line.failure.isSome = s.latched .transmitFailed
  overflow : s.line.overflow = true → s.line.failure.isSome = true

/-- No two filled positions of a table hold the same key. -/
def distinctKeys {α κ : Type} (key : α → κ) (table : List (Option α)) : Prop :=
  ((table.filterMap id).map key).Nodup

/-- The laws of the tables: peers with distinct addresses, none the station's own (R26); alias entries with distinct hall
source numbers (R93); schedule entries within the ranges of R149 (R148); current keystone and presets within the limits
(R114); a lock stack of at most 4 entries, levels strictly increasing (R130). The records staged by a load keep the same
laws. -/
structure TableLaw (s : State) : Prop where
  peers : distinctKeys PeerRecord.address s.peers.table.toList
  notOwn : ∀ r, some r ∈ s.peers.table.toList → r.address ≠ s.line.address
  aliases : distinctKeys AliasEntry.source s.router.table.toList
  stagedAliases : distinctKeys AliasEntry.source s.store.staged.table.toList
  entries : ∀ e, some e ∈ s.schedule.table.toList → e.ok = true
  stagedEntries : ∀ e, some e ∈ s.store.staged.entries.toList → e.ok = true
  keystone : s.geometry.current.ok = true
  stagedKeystone : s.store.staged.keystone.ok = true
  presets : ∀ k, some k ∈ s.geometry.presets.toList → k.ok = true
  stagedPresets : ∀ k, some k ∈ s.store.staged.presets.toList → k.ok = true
  depth : s.lockout.stack.length ≤ Config.stackSize
  levels : s.lockout.stack.Pairwise fun a b => a.level < b.level

/-- The laws of lamp and wear: while a bar holds the lamp is COOLDOWN or DARK (R59); the lit cause is NONE exactly while
the lamp is not on (R64); a held strike waits in COOLDOWN alone, with cause ORDER or KEY (R61); a residue to 15 and an E
below the expiry limit plus 900 (R84); the lamp rests in COOLDOWN until the load at start has completed (R74). -/
structure LampLaw (s : State) : Prop where
  bar : s.barred = true → lampOn s.lamp.state = false
  cause : s.lamp.cause = .noCause ↔ lampOn s.lamp.state = false
  heldStrike : s.lamp.heldStrike ≠ none → s.lamp.state = .cooldown
  heldCause : ∀ c, s.lamp.heldStrike = some c → c = .order ∨ c = .key
  residue : s.wear.record.residue ≤ 15
  bound : s.wear.record.equivalent < s.store.settings.expiryLimit + 900
  stagedResidue : s.store.staged.wear.residue ≤ 15
  stagedBound : s.store.staged.wear.equivalent < s.store.staged.settings.expiryLimit + 900
  unread : s.store.loadIndex ≤ 1 → s.store.staged.wear = WearRecord.zero
  loading : s.loaded = false → s.lamp.state = .cooldown ∧ s.lamp.timer = none

/-- The laws of Shared Duty: the offer held is the one R160 derives from the state; a lamp lit by the schedule has a
governing entry and is not declined (R64). -/
structure DutyLaw (s : State) : Prop where
  offer : s.duty.offer = s.offerNow
  schedule : s.lamp.cause = .schedule → s.duty.entryGroup ≠ none ∧ s.duty.declined = false
  lit : s.lamp.cause = .schedule → lampOn s.lamp.state = true
  heldCause : ∀ c, s.lamp.heldStrike = some c → c = .order ∨ c = .key

/-- The law of the change watch (R24, R25): in ACTIVE the last offered image is the beacon as it would now be composed. -/
def ImageLaw (s : State) : Prop := s.line.state = .active → s.peers.image = some s.beaconNow

/-- The laws of the Store (R178): no record waits twice, and a list with nothing in flight is empty once the load has
completed. -/
structure StoreLaw (x : Store) : Prop where
  once : x.list.Nodup
  busy : Config.recordCount ≤ x.loadIndex → x.inFlight = none → x.list = []
  reads : x.loadIndex ≤ Config.recordCount

end Sys2Proof.Machine
end

