-- ==== Sys2Proof/Certificates/Slice0/Obligations.lean ====
section
/-! DEFINITION. The statements for the provers. `Effects c s u` says that command `c` answers, on `s`, a next state that
is `u` after what follows a command in the same event (Sys2Proof/Safety.lean). -/

open Sys2Proof Sys2Proof.Machine

/-! ## The queue of commands, and the resets -/

/-- A step takes the command at the front of the queue and runs it on the queue's rest. -/
def Obligations.StepRunsTheFrontCommand : Prop :=
  ∀ (c : Instr) (rest : List Instr) (s : State), s.pending = c :: rest → step s = exec c { s with pending := rest }

/-- The model's choice (log 3): on an empty queue one millisecond passes, once reset is released, and nothing else
changes. The model's reading (log 1) of R184: before reset is released no command but a reset acts. -/
def Obligations.IdleStepsAndHeldReset : Prop :=
  (∀ s : State, s.pending = [] → step s = .next (if s.released then { s with now := s.now + 1 } else s)) ∧
  (∀ (c : Instr) (s : State), s.released = false → c ≠ .powerOn → c ≠ .resetPin → (∀ a r, c ≠ .resetRelease a r) →
     exec c s = .next s)

/-- POWER_ON and RESET_PIN put every block into its reset state at once (R183); only the waiting commands and the
lamp-on sense, which come from outside, stay (log 7). RESTART_RESET resets a released part whose pending restart has
nothing left to wait for (R183): its ANSWER has left the queue, the write-back list is empty and no write is in
flight. Otherwise the part runs on. RESET_RELEASE samples the straps and begins the load in a part held in reset
(R184, R180). The model's choices of log 21: the restart waits for the ANSWER of the RESTART that made it pending,
marked `forRestart`; and RESET_RELEASE changes nothing in a part already released. -/
def Obligations.ResetsAndTheirRelease : Prop :=
  (∀ s : State,
     exec .powerOn s =
         .next { State.reset with pending := s.pending, lamp := { Lamp.reset with sense := s.lamp.sense } } ∧
       exec .resetPin s =
         .next { State.reset with pending := s.pending, lamp := { Lamp.reset with sense := s.lamp.sense } }) ∧
  (∀ s : State, s.released = true → s.store.restartPending = true →
    (∀ q ∈ s.line.queue, q.forRestart = false) → s.store.list = [] → s.store.inFlight = none →
      exec .restartReset s =
        .next { State.reset with pending := s.pending, lamp := { Lamp.reset with sense := s.lamp.sense } }) ∧
  (∀ s : State, s.store.restartPending = false ∨ (∃ q ∈ s.line.queue, q.forRestart = true) ∨ s.store.list ≠ [] ∨
      s.store.inFlight ≠ none →
    exec .restartReset s = .next s) ∧
  (∀ (a : BitVec 5) (r : Bool) (s : State), s.released = false →
    exec (.resetRelease a r) s =
      .next
        { State.reset with
          pending := s.pending
          released := true
          line := { Line.reset with address := a, timeReference := r }
          lamp := { Lamp.reset with sense := s.lamp.sense }
          store := { Store.reset with readTimer := some 50 } }) ∧
  (∀ (a : BitVec 5) (r : Bool) (s : State), s.released = true → exec (.resetRelease a r) s = .next s)

/-- What the rules give every reset (R5, R25, R48, R74, R113, R128, R142, R158, R159, R174, R178). -/
def Obligations.ResetIsTheRulesReset : Prop :=
  let s := State.reset
  (s.line.state = .listen ∧ s.line.queue = [] ∧ s.line.failure = none ∧ s.line.overflow = false ∧
    s.line.heldUpdate = none) ∧
  (s.peers.table.toList.all Option.isNone = true ∧ s.peers.beaconTimer = none ∧ s.peers.image = none) ∧
  (s.indicator = .blank ∧ s.refusedTimer = none) ∧
  (s.lamp.state = .cooldown ∧ s.ballast = .off ∧ s.fans = .high ∧ s.lamp.heldStrike = none ∧ s.lamp.cause = .noCause ∧
    s.lamp.attempts = 0 ∧ s.lamp.requested = .normal ∧ s.served = .normal ∧ s.lamp.housing = none ∧ s.hot = false) ∧
  s.wear.sinceExtinction = none ∧
  (s.router.selection = .noSource ∧ s.router.current = none ∧ s.router.pendingTarget = none ∧
    s.router.inFlightPort = none ∧ s.router.switchTimer = none ∧ s.router.searchTimer = none ∧
    s.router.wanted = false ∧ s.router.signal.toList.all not = true ∧ s.switcherInput = .park ∧
    s.switcherOutput = .mute) ∧
  (s.handoffBusy = false ∧ s.geometry.timer = none ∧ s.geometry.pendingSet = none ∧ s.geometry.lastNumber = 0) ∧
  (s.lockout.stack = [] ∧ s.lockout.floor = 0 ∧ s.level = 0) ∧
  (s.schedule.day = 0 ∧ s.schedule.minute = 0 ∧ s.schedule.second = 0 ∧ s.schedule.valid = false ∧
    s.schedule.governing = none) ∧
  (s.duty.entryGroup = none ∧ s.duty.entryDemand = none ∧ s.duty.offer = none ∧ s.duty.declined = false ∧
    s.duty.holdoff = none) ∧
  s.conditions = 0#9 ∧
  (s.store.list = [] ∧ s.store.inFlight = none ∧ s.store.retry = [] ∧ s.store.restartPending = false)

/-! ## The hall line -/

/-- LISTEN_END (R5, R23): an addressed station becomes ACTIVE with the beacon it would now compose as the one frame
of its queue and as its last offered image, and the beacon period timer at 2 s; that, and what follows in the event,
is all. An unaddressed station stays in LISTEN. BEACON_PERIOD (R23, R25): in ACTIVE, while the timer runs, the
beacon as it now stands is offered and recorded as the last offered image, whether or not it differs from it, and
the timer starts at 2 s again; nothing else changes. The model's choice (log 2): LISTEN_END outside LISTEN, and
BEACON_PERIOD with a stopped timer or outside ACTIVE, which the part could not raise, change nothing. -/
def Obligations.BeaconingBeginsAndRepeats : Prop :=
  (∀ s : State, s.released = true → s.line.state = .listen → s.line.address ≠ 0 → s.line.address ≠ 31 →
    s.line.queue = [] → s.line.attempt = none →
    ∃ t, exec .listenEnd s = .next t ∧
      Followed s
        ((s.withLine
            { s.line with
              state := .active
              queue := [{ frame := beaconFrame s s.beaconNow, attempts := 0, forRestart := false }] }).withPeers
          { s.peers with image := some s.beaconNow, beaconTimer := some (s.now + 2000) }) t ∧
      t.line.state = .active ∧
      t.line.queue = [{ frame := beaconFrame s t.beaconNow, attempts := 0, forRestart := false }] ∧
      t.peers = { s.peers with image := some t.beaconNow, beaconTimer := some (s.now + 2000) } ∧
      t.line.address = s.line.address ∧ t.line.failure = s.line.failure ∧ t.line.overflow = s.line.overflow ∧
      t.router = s.router ∧ t.geometry = s.geometry ∧ t.lockout = s.lockout ∧ t.schedule = s.schedule ∧
      t.conditions = s.conditions ∧ t.wear.record = s.wear.record ∧ t.refusedTimer = s.refusedTimer) ∧
  (∀ s : State, s.line.state ≠ .listen ∨ s.line.address = 0 ∨ s.line.address = 31 → exec .listenEnd s = .next s) ∧
  (∀ s : State, s.released = true → s.line.state = .active → s.peers.beaconTimer ≠ none →
    exec .beaconPeriod s =
      .next
        (offerBeacon s.beaconNow
          (s.withPeers { s.peers with image := some s.beaconNow, beaconTimer := some (s.now + 2000) }))) ∧
  (∀ s : State, s.line.state ≠ .active ∨ s.peers.beaconTimer = none → exec .beaconPeriod s = .next s)

/-- CONTEND_FOR_LINE (R3, R9, R13): in ACTIVE, with no attempt in progress, the frame of the lowest class, the
earliest among those, is offered. Unless another station begins with a lower key the attempt on it begins and
nothing else changes; if one does, the station has made no attempt and takes the winning frame as received: in the
model's reading (log 13), within the same command, as FRAME_DISCARDED of that frame would be taken. -/
def Obligations.ArbitrationChoosesAndDecides : Prop :=
  ∀ (rival : List Byte) (i : Nat) (q : QueuedFrame) (s : State),
    s.released = true → s.line.state = .active → s.line.attempt = none → s.line.skipping = false →
    s.line.queue[i]? = some q → (∀ r ∈ s.line.queue, q.frame.cls.toNat ≤ r.frame.cls.toNat) →
    (∀ j r, j < i → s.line.queue[j]? = some r → q.frame.cls.toNat < r.frame.cls.toNat) →
    ((∀ k, rival.head? = some k → q.frame.arbitrationByte.toNat ≤ k.toNat) →
      exec (.contendForLine rival) s = .next (s.withLine { s.line with attempt := some i })) ∧
    ((∃ k, rival.head? = some k ∧ k.toNat < q.frame.arbitrationByte.toNat) →
      exec (.contendForLine rival) s = exec (.frameDiscarded rival) s)

/-- FRAME_SENT (R12, R14): the frame of the attempt leaves the queue; a held beacon update is offered anew and joins
the back, there being room. Nothing else changes. LINE_FAULT before the fourth failure (R12, R14): the frame stays
in its place with its count raised by one, a held beacon update rewrites its payload, and nothing else changes.
LINE_FAULT on a frame of count 3 (R15, R16): the frame leaves the queue and is recorded as a failure with reason
LINE FAULT; a held beacon update is then offered anew, the failure recorded first (the model's order, log 18).
`recordFailure` and `offerBeacon` are said by `QueueTakesOfferedFrames`. -/
def Obligations.AttemptsEndInThreeWays : Prop :=
  (∀ (i : Nat) (s : State), s.released = true → s.line.attempt = some i → i < s.line.queue.length →
     (s.line.heldUpdate = none →
       exec .frameSent s =
         .next (s.withLine { s.line with queue := s.line.queue.eraseIdx i, attempt := none })) ∧
     (∀ p, s.line.heldUpdate = some p → s.line.state = .active → s.line.queue.length ≤ 8 →
       (∀ q ∈ s.line.queue.eraseIdx i, q.frame.kind ≠ .beacon) →
       exec .frameSent s =
         .next
           (s.withLine
             { s.line with
               queue := s.line.queue.eraseIdx i ++
                 [{ frame := beaconFrame s p, attempts := 0, forRestart := false }]
               attempt := none
               heldUpdate := none }))) ∧
  (∀ (i : Nat) (q : QueuedFrame) (s : State), s.released = true → s.line.attempt = some i →
     s.line.queue[i]? = some q → q.attempts < 3 →
     exec .lineFault s =
       .next
         (s.withLine
           { s.line with
             queue := s.line.queue.set i
               { q with
                 attempts := q.attempts + 1
                 frame := { q.frame with payload := s.line.heldUpdate.getD q.frame.payload } }
             attempt := none
             heldUpdate := none })) ∧
  (∀ (i : Nat) (q : QueuedFrame) (s : State), s.released = true → s.line.attempt = some i →
     s.line.queue[i]? = some q → 3 ≤ q.attempts →
     let removed := recordFailure
       { reason := .lineFault, kind := q.frame.kind, dest := q.frame.dest, codeTag := answerCodeTag q.frame }
       (s.withLine { s.line with queue := s.line.queue.eraseIdx i, attempt := none, heldUpdate := none })
     (s.line.heldUpdate = none → Effects .lineFault s removed) ∧
     (∀ p, s.line.heldUpdate = some p → Effects .lineFault s (offerBeacon p removed)))

/-- A frame that is no BEACON is offered (R10, R6, R8): outside ACTIVE it is not admitted; with fewer than 8 frames
queued it joins the back with an attempt count of 0; a full queue refuses it and a failure with reason QUEUE FULL is
recorded. A failure (R16): the first fills the log, clears the overflow flag and latches TRANSMIT FAILED, whose
NOTICE joins the queue in ACTIVE when the LINE category is in the notice mask, or sets the overflow flag when the
queue is full; a later failure sets the overflow flag and nothing else. A BEACON is offered in ACTIVE (R11, R12),
the queue holding at most one: it rewrites the queued BEACON in place, becomes the held update while that BEACON is
on the wire, joins the back when the queue holds none and has room, and is dropped otherwise. Every other frame
stays. -/
def Obligations.QueueTakesOfferedFrames : Prop :=
  (∀ (f : Frame) (s : State),
     (s.line.state ≠ .active → offerFrame f s = s) ∧
     (s.line.state = .active → s.line.queue.length < 8 →
       offerFrame f s =
         s.withLine
           { s.line with queue := s.line.queue ++ [{ frame := f, attempts := 0, forRestart := false }] }) ∧
     (s.line.state = .active → 8 ≤ s.line.queue.length →
       offerFrame f s =
         recordFailure { reason := .queueFull, kind := f.kind, dest := f.dest, codeTag := answerCodeTag f } s)) ∧
  (∀ (r : FailureRecord) (s : State),
     (∀ old, s.line.failure = some old → recordFailure r s = s.withLine { s.line with overflow := true }) ∧
     (s.line.failure = none → s.latched .transmitFailed = false →
       let logged := (s.withLine { s.line with failure := some r, overflow := false }).withConditions
         (s.conditions ||| 0x40#9)
       recordFailure r s =
         if s.store.settings.noticeMask.getLsbD 2 = true ∧ s.line.state = .active then
           if s.line.queue.length < 8 then
             joinQueue
               { cls := 1, source := s.line.address, dest := 0x80, kind := .notice, authority := 0,
                 payload := [6, byteOf (reasonCode r.reason), byteOf r.kind.code.toNat] } false logged
           else logged.withLine { logged.line with overflow := true }
         else logged)) ∧
  (∀ (p : List Byte) (s : State), s.line.state = .active →
     (∀ i q, s.line.queue[i]? = some q → q.frame.kind = .beacon →
       (∀ j r, j < i → s.line.queue[j]? = some r → r.frame.kind ≠ .beacon) →
       (s.line.attempt ≠ some i →
         offerBeacon p s =
           s.withLine
             { s.line with queue := s.line.queue.set i { q with frame := { q.frame with payload := p } } }) ∧
       (s.line.attempt = some i → offerBeacon p s = s.withLine { s.line with heldUpdate := some p })) ∧
     ((∀ q ∈ s.line.queue, q.frame.kind ≠ .beacon) → s.line.queue.length < 8 →
       offerBeacon p s =
         s.withLine
           { s.line with
             queue := s.line.queue ++ [{ frame := beaconFrame s p, attempts := 0, forRestart := false }] }) ∧
     ((∀ q ∈ s.line.queue, q.frame.kind ≠ .beacon) → 8 ≤ s.line.queue.length → offerBeacon p s = s))

/-- A frame the receive path discards (R18 to R20): a payload length above 24 stops the taking of bytes until the
line falls idle; a frame cut short, failing its check or refused by the header screen changes nothing, and neither
does any frame while bytes are not taken. A frame of another station whose payload length does not suit its kind
changes nothing (R19), and neither does an ANSWER or a NOTICE, in any line state (R20). The lengths that suit: 14
for a beacon of role 1 and 1 to 24 for another, 2 to 24 for an ORDER, 3 to 23 for an ANSWER, 4 for a CLOCK, 3 for a
NOTICE, 2 for a CUE. LINE_FALLS_IDLE restores the taking of bytes and changes nothing else. -/
def Obligations.DiscardedFramesChangeNothing : Prop :=
  (∀ (bytes : List Byte) (s : State), s.released = true → s.line.skipping = false → readFrame bytes = .overlong →
    exec (.frameDiscarded bytes) s = .next (s.withLine { s.line with skipping := true })) ∧
  (∀ (bytes : List Byte) (s : State), s.line.skipping = true ∨ readFrame bytes = .bad →
    exec (.frameDiscarded bytes) s = .next s) ∧
  (∀ (bytes : List Byte) (f : Frame) (s : State), readFrame bytes = .frame f → f.source ≠ s.line.address →
    lengthSuits f.kind f.payload = false ∨ f.kind = .answer ∨ f.kind = .notice →
    exec (.frameDiscarded bytes) s = .next s) ∧
  (∀ (kind : FrameKind) (payload : List Byte),
    lengthSuits kind payload = true ↔
      (match kind with
        | .beacon =>
          1 ≤ payload.length ∧ payload.length ≤ 24 ∧ (payload.head? = some 1 → payload.length = 14)
        | .order => 2 ≤ payload.length ∧ payload.length ≤ 24
        | .answer => 3 ≤ payload.length ∧ payload.length ≤ 23
        | .clock => payload.length = 4
        | .notice => payload.length = 3
        | .cue => payload.length = 2)) ∧
  (∀ s : State, s.released = true → exec .lineFallsIdle s = .next (s.withLine { s.line with skipping := false }))

/-- A frame with the station's own source address (R7, R8, R25), whatever its kind, an ORDER of any code among them:
in LISTEN and ACTIVE the station enters CLASH, its queue, attempt and held update gone and the beacon period timer
stopped; the frame is not delivered, and the line and the peer table are left so by what follows. In CLASH nothing
changes. Only a reset leaves CLASH (R8): no other command, and no idle step, changes the line state of a station in
CLASH. -/
def Obligations.ClashIsEnteredAndKept : Prop :=
  let clashed (s : State) : State :=
    (s.withLine { s.line with state := .clash, queue := [], attempt := none, heldUpdate := none }).withPeers
      { s.peers with beaconTimer := none }
  let enters (c : Instr) (s : State) : Prop :=
    (s.line.state ≠ .clash →
      ∃ t, exec c s = .next t ∧ Followed s (clashed s) t ∧ t.line = (clashed s).line ∧ t.peers = (clashed s).peers) ∧
    (s.line.state = .clash → exec c s = .next s)
  (∀ (bytes : List Byte) (f : Frame) (s : State), s.released = true → s.line.skipping = false →
     readFrame bytes = .frame f → f.source = s.line.address →
     enters (.frameDiscarded bytes) s ∧ enters (.beaconReceived bytes) s ∧ enters (.clockReceived bytes) s ∧
       enters (.cueReceived bytes) s) ∧
  (∀ (i : Instr) (kind : OrderKind) (code : Byte) (o : OrderFrame) (s : State),
     orderCarried i = some (kind, o) ∨ i = .unknownOrder code o → s.released = true → s.line.skipping = false →
     sourceOk o.source = true → destOk o.dest = true → o.source = s.line.address → enters i s) ∧
  (∀ (c : Instr) (s t : State), s.line.state = .clash → c ≠ .powerOn → c ≠ .resetPin → c ≠ .restartReset →
     (∀ a r, c = .resetRelease a r → s.released = true) → exec c s = .next t → t.line.state = .clash) ∧
  (∀ s t : State, s.line.state = .clash → s.pending = [] → step s = .next t → t.line.state = .clash)

/-! ## Beacons, peers and conditions -/

/-- BEACON_RECEIVED of an accepted projector beacon (R20, R28 to R30), in every line state: it replaces the fields
of the record of its address, in its position and with age 0; a new address takes the lowest empty position; with
all 15 positions taken it is not recorded and PEER TABLE FULL is latched. A beacon whose payload R19 or R27 does not
accept changes nothing: R27 refuses another role than 1 and each field out of its range, and accepts every other
beacon of 14 bytes. PEER_AGE_OUT (R31): the record of the address, 7 s old, leaves its position empty; a record
refreshed since, younger than 7 s, stays and nothing changes. The model's choice (log 2): an address not recorded
changes nothing. -/
def Obligations.PeerTableFollowsBeacons : Prop :=
  (∀ (bytes : List Byte) (f : Frame) (b : Beacon) (s : State), s.released = true → s.line.skipping = false →
     readFrame bytes = .frame f → f.source ≠ s.line.address → f.kind = .beacon → lengthSuits f.kind f.payload = true →
     parseBeacon f.payload = some b →
     let record : PeerRecord := { address := f.source, beacon := b, heardAt := s.now }
     (∀ (i : Fin 15) (old : PeerRecord), s.peers.table[i] = some old → old.address = f.source →
       (∀ (j : Fin 15) (r : PeerRecord), s.peers.table[j] = some r → r.address = f.source → j = i) →
       Effects (.beaconReceived bytes) s (s.withPeers { s.peers with table := s.peers.table.set i (some record) })) ∧
     (∀ i : Fin 15, s.peers.table[i] = none → (∀ j : Fin 15, j < i → s.peers.table[j] ≠ none) →
       (∀ (j : Fin 15) (r : PeerRecord), s.peers.table[j] = some r → r.address ≠ f.source) →
       Effects (.beaconReceived bytes) s (s.withPeers { s.peers with table := s.peers.table.set i (some record) })) ∧
     ((∀ j : Fin 15, ∃ r, s.peers.table[j] = some r ∧ r.address ≠ f.source) →
       Effects (.beaconReceived bytes) s (latch .peerTableFull f.source.toNat s))) ∧
  (∀ (bytes : List Byte) (f : Frame) (s : State), readFrame bytes = .frame f → f.source ≠ s.line.address →
     f.kind = .beacon → lengthSuits f.kind f.payload = false ∨ parseBeacon f.payload = none →
     exec (.beaconReceived bytes) s = .next s) ∧
  (∀ role lamp mode cause offer flags k2 k1 k0 source level c1 c0 membership : Byte,
    parseBeacon [role, lamp, mode, cause, offer, flags, k2, k1, k0, source, level, c1, c0, membership] = none ↔
      role ≠ 1 ∨ 5 < lamp.toNat ∨ 2 < mode.toNat ∨ 3 < cause.toNat ∨ (7 < offer.toNat ∧ offer ≠ 255) ∨
        200000 < k2.toNat * 65536 + k1.toNat * 256 + k0.toNat ∨ 63 < source.toNat ∨ 7 < level.toNat) ∧
  (∀ payload : List Byte, payload.length ≠ 14 → parseBeacon payload = none) ∧
  (∀ (a : BitVec 5) (i : Fin 15) (r : PeerRecord) (s : State), s.released = true →
    s.peers.table[i] = some r → r.address = a →
    (∀ (j : Fin 15) (q : PeerRecord), s.peers.table[j] = some q → q.address = a → j = i) →
    (r.heardAt + 7000 ≤ s.now →
      Effects (.peerAgeOut a) s (s.withPeers { s.peers with table := s.peers.table.set i none })) ∧
    (s.now < r.heardAt + 7000 → exec (.peerAgeOut a) s = .next s)) ∧
  (∀ (a : BitVec 5) (s : State), (∀ (j : Fin 15) (q : PeerRecord), s.peers.table[j] = some q → q.address ≠ a) →
    exec (.peerAgeOut a) s = .next s)

/-- A condition is latched (R174, R175): a latched one changes nothing; a clear one sets its bit and, when its
category is in the notice mask, offers a NOTICE of its code and detail to all stations, at class 0 for THERMAL TRIP
and class 1 otherwise. -/
def Obligations.ConditionLatchesOnce : Prop :=
  ∀ (c : Condition) (detail : Nat) (s : State),
    (s.latched c = true → latch c detail s = s) ∧
    (s.latched c = false →
      (latch c detail s).latched c = true ∧
      (∀ d, d ≠ c → s.latched d = (s.withConditions (s.conditions ||| conditionBit c)).latched d) ∧
      latch c detail s =
        (if s.store.settings.noticeMask.getLsbD (categoryBit (conditionCategory c)) then
          offerFrame
            { cls := if c = .thermalTrip then 0 else 1
              source := s.line.address
              dest := 0x80
              kind := .notice
              authority := 0
              payload := [byteOf (conditionCode c), byteOf (detail / 256), byteOf detail] }
            (s.withConditions (s.conditions ||| conditionBit c))
        else s.withConditions (s.conditions ||| conditionBit c)))

/-- Every frame the part can send or receive survives its bytes (R1, R2, R18, R19): reading the bytes of a frame
with a valid source and destination and a payload of at most 24 bytes gives that frame, whatever follows its check;
the last two bytes are its check, and a frame with another check is refused. The fields of a beacon within the
ranges of R27 (its ignored bits 0) survive its 14 bytes. -/
def Obligations.FramesAndBeaconsRoundTrip : Prop :=
  (∀ (f : Frame) (more : List Byte) (check : List Byte), sourceOk f.source = true → destOk f.dest = true →
     f.payload.length ≤ 24 →
     f.bytes = f.body ++ bytesOf 2 (frameCheck f.body).toNat ∧
     f.bytes.length = f.payload.length + 6 ∧
     readFrame (f.bytes ++ more) = .frame f ∧
     (check.length = 2 → check ≠ bytesOf 2 (frameCheck f.body).toNat → readFrame (f.body ++ check) = .bad)) ∧
  (∀ b : Beacon, (∀ g, b.offer = some g → g ≤ 7) → b.wearKey ≤ 200000 → b.source ≤ 63 → b.level ≤ 7 →
     b.summary &&& 0xF800#16 = 0#16 → (beaconBytes b).length = 14 ∧ parseBeacon (beaconBytes b) = some b)

/-! ## Clock and cues from the line -/

/-- Setting the clock (R146): day, minute and second are replaced and the valid flag set; the schedule is evaluated
when the flag was clear or the day or minute differs, and not otherwise. CLOCK_RECEIVED (R20, R144): in every line
state a CLOCK of another station with day, minute and second in range sets the clock; one out of range changes
nothing. TIME SET that reaches the Schedule Unit (R145): the clock is set, DONE. -/
def Obligations.SettingTheClock : Prop :=
  (∀ (day minute second : Nat) (s : State),
     let set := s.withSchedule { s.schedule with day := day, minute := minute, second := second, valid := true }
     (s.schedule.valid = true ∧ s.schedule.day = day ∧ s.schedule.minute = minute →
       setClock day minute second s = s.withSchedule { s.schedule with second := second }) ∧
     (s.schedule.valid = false ∨ s.schedule.day ≠ day ∨ s.schedule.minute ≠ minute →
       setClock day minute second s = evaluateSchedule none set) ∧
     (setClock day minute second s).schedule.day = day ∧ (setClock day minute second s).schedule.minute = minute ∧
       (setClock day minute second s).schedule.second = second ∧ (setClock day minute second s).schedule.valid = true ∧
       (setClock day minute second s).schedule.table = s.schedule.table) ∧
  (∀ (bytes : List Byte) (f : Frame) (day m1 m0 second : Byte) (s : State), s.released = true →
     s.line.skipping = false → readFrame bytes = .frame f → f.source ≠ s.line.address → f.kind = .clock →
     f.payload = [day, m1, m0, second] →
     (day.toNat ≤ 6 ∧ m1.toNat * 256 + m0.toNat ≤ 1439 ∧ second.toNat ≤ 59 →
       Effects (.clockReceived bytes) s (setClock day.toNat (m1.toNat * 256 + m0.toNat) second.toNat s)) ∧
     (6 < day.toNat ∨ 1439 < m1.toNat * 256 + m0.toNat ∨ 59 < second.toNat →
       exec (.clockReceived bytes) s = .next s)) ∧
  (∀ (o : OrderFrame) (day m1 m0 second : Byte) (s : State), Reaches .timeSet o s → o.args = [day, m1, m0, second] →
     Effects (.timeSet o) s
       (answer (s.direct o) false 0x52 o .done []
         (setClock day.toNat (m1.toNat * 256 + m0.toNat) second.toNat s)))

/-- CUE_RECEIVED (R110, R131): in ACTIVE and CLASH a CUE of a followed group and a source number 1 to 63 whose
authority is above the effective level is taken as a selection, which `SelectionFollowsTheTable` says; it sends no
frame. Any other CUE changes nothing. -/
def Obligations.CueIsFollowed : Prop :=
  ∀ (bytes : List Byte) (f : Frame) (group source : Byte) (s : State), s.released = true →
    s.line.skipping = false → readFrame bytes = .frame f → f.source ≠ s.line.address → f.kind = .cue →
    f.payload = [group, source] →
    (s.line.state ≠ .listen → group.toNat ≤ 7 → 1 ≤ source.toNat → source.toNat ≤ 63 →
      s.store.settings.follow.getLsbD group.toNat = true → s.level < f.authority.toNat →
      Effects (.cueReceived bytes) s (takeSelect source.toNat s).1) ∧
    (s.line.state = .listen ∨ 7 < group.toNat ∨ source.toNat = 0 ∨ 63 < source.toNat ∨
        s.store.settings.follow.getLsbD group.toNat = false ∨ f.authority.toNat ≤ s.level →
      exec (.cueReceived bytes) s = .next s)

/-! ## Orders: the acceptance path -/

/-- An order that the form, the ranges or the lockout refuse (R37 to R39, R41, R42) has no effect but its answer,
the refusal to its sender, and that only when it was sent directly. Every order but the unknown one. The form or the
ranges refuse with RANGE, before the lockout judges. The forms of R37: the count of argument bytes, and for ALIAS
WRITE and WEAR RESET a label of at most 8 printable characters behind its length. The ranges of R38, as the owners'
chapters give them (R67, R93 to R98, R114, R116, R123, R124, R133, R135, R145, R149, R181, R44); every other value
is in range. -/
def Obligations.RefusedOrderOnlyAnswers : Prop :=
  (∀ (i : Instr) (kind : OrderKind) (o : OrderFrame) (r : Result) (s : State), orderCarried i = some (kind, o) →
    Delivered o s → s.judges kind o → orderRefusal kind o.authority.toNat o.args s = some r →
    (s.direct o = true → Effects i s (offerFrame (answerFrame s o.source kind.code o.tag r []) s)) ∧
    (s.direct o = false → exec i s = .next s)) ∧
  (∀ (kind : OrderKind) (authority : Nat) (args : List Byte) (s : State),
    orderRefusal kind authority args s =
      if orderFormOk kind args = true ∧ orderRangeOk kind args = true then
        s.lockoutCheck authority (orderMinAuthority kind) (orderLockable kind)
      else some .range) ∧
  (∀ (kind : OrderKind) (args : List Byte),
    let labelled (bytes : List Byte) : Prop :=
      ∃ len label, bytes = len :: label ∧ len.toNat ≤ 8 ∧ label.length = len.toNat ∧
        ∀ x ∈ label, 0x20 ≤ x.toNat ∧ x.toNat ≤ 0x7E
    orderFormOk kind args = true ↔
      (match kind with
        | .light | .rest | .showPicture | .blank | .restart => args.length = 0
        | .setMode | .select | .aliasClear | .storePreset | .recallPreset | .entryClear => args.length = 1
        | .setKeystone | .nudgeKeystone | .unlock | .acknowledge | .query => args.length = 2
        | .lock => args.length = 3
        | .timeSet => args.length = 4
        | .aliasWrite => ∃ source port fallback rest, args = source :: port :: fallback :: rest ∧ labelled rest
        | .wearReset => labelled args
        | .entryWrite => args.length = 12
        | .settingsWrite => args.length = 19)) ∧
  (∀ (a b c d : Byte) (label : List Byte),
    (orderRangeOk .setMode [a] = true ↔ a.toNat ≤ 2) ∧
    (orderRangeOk .select [a] = true ↔ 1 ≤ a.toNat ∧ a.toNat ≤ 63) ∧
    (orderRangeOk .aliasClear [a] = true ↔ 1 ≤ a.toNat ∧ a.toNat ≤ 63) ∧
    (orderRangeOk .aliasWrite (a :: b :: c :: label) = true ↔
      1 ≤ a.toNat ∧ a.toNat ≤ 63 ∧ 1 ≤ b.toNat ∧ b.toNat ≤ 6 ∧ c.toNat ≤ 63) ∧
    (orderRangeOk .nudgeKeystone [a, b] = true ↔ a.toNat ≤ 1 ∧ -16 ≤ b.toInt ∧ b.toInt ≤ 16) ∧
    (orderRangeOk .storePreset [a] = true ↔ a.toNat ≤ 3) ∧
    (orderRangeOk .recallPreset [a] = true ↔ a.toNat ≤ 3) ∧
    (orderRangeOk .lock [a, b, c] = true ↔ 1 ≤ a.toNat ∧ a.toNat ≤ 7 ∧ b.toNat * 256 + c.toNat ≤ 720) ∧
    (orderRangeOk .unlock [a, b] = true ↔ a.toNat ≤ 7) ∧
    (orderRangeOk .entryClear [a] = true ↔ a.toNat ≤ 31) ∧
    (orderRangeOk .timeSet [a, b, c, d] = true ↔
      a.toNat ≤ 6 ∧ b.toNat * 256 + c.toNat ≤ 1439 ∧ d.toNat ≤ 59) ∧
    (orderRangeOk .query [a, b] = true ↔ a.toNat ≤ 10)) ∧
  (∀ slot days b1 b0 e1 e0 group demand source preset mode level : Byte,
    orderRangeOk .entryWrite [slot, days, b1, b0, e1, e0, group, demand, source, preset, mode, level] = true ↔
      slot.toNat ≤ 31 ∧ days.getLsbD 7 = false ∧ b1.toNat * 256 + b0.toNat < e1.toNat * 256 + e0.toNat ∧
        e1.toNat * 256 + e0.toNat ≤ 1440 ∧ group.toNat ≤ 7 ∧ 1 ≤ demand.toNat ∧ demand.toNat ≤ 8 ∧
        source.toNat ≤ 63 ∧ (preset.toNat ≤ 3 ∨ preset = 255) ∧ (mode.toNat ≤ 2 ∨ mode = 255) ∧ level.toNat ≤ 7) ∧
  (∀ groups cues follow l1 l0 m1 m0 a1 a0 p w c1 c0 x1 x0 y1 y0 keypad notice : Byte,
    let n (hi lo : Byte) : Nat := hi.toNat * 256 + lo.toNat
    orderRangeOk .settingsWrite
        [groups, cues, follow, l1, l0, m1, m0, a1, a0, p, w, c1, c0, x1, x0, y1, y0, keypad, notice] = true ↔
      500 ≤ n l1 l0 ∧ n l1 l0 ≤ 20000 ∧ 10 ≤ n m1 m0 ∧ n m1 m0 ≤ 2000 ∧ n a1 a0 ≤ 1000 ∧ 2 ≤ p.toNat ∧ p.toNat ≤ 15 ∧
        30 ≤ w.toNat ∧ w.toNat ≤ 120 ∧ 60 ≤ n c1 c0 ∧ n c1 c0 ≤ 300 ∧ 640 ≤ n x1 x0 ∧ n x1 x0 ≤ 4096 ∧
        480 ≤ n y1 y0 ∧ n y1 y0 ≤ 2400 ∧ keypad.toNat ≤ 3) ∧
  (∀ (kind : OrderKind) (args : List Byte),
    kind = .light ∨ kind = .rest ∨ kind = .showPicture ∨ kind = .blank ∨ kind = .setKeystone ∨ kind = .acknowledge ∨
        kind = .wearReset ∨ kind = .restart →
      orderRangeOk kind args = true)

/-- An order that does not reach the Order Decoder, or is not for this station, changes nothing (R6, R8, R18 to R20,
R35, R36): while no bytes are taken, outside ACTIVE, for another station or another group, or of a direct-only kind
sent to a group or to all. UNKNOWN_ORDER (R36): an order code not in the table is answered UNKNOWN when the order is
direct, and discarded otherwise; it has no effect. The answer to a direct order (R4, R41): class 1, authority 0,
addressed to the order's sender; order code and tag as received, the result, the data. Whom a destination names
(R35): a station destination of the own address is direct, of 31 all stations; a group destination names the members
of the group, and the third kind all. The direct-only orders of R36. -/
def Obligations.OrdersNotTakenHere : Prop :=
  (∀ (i : Instr) (kind : OrderKind) (o : OrderFrame) (s : State), orderCarried i = some (kind, o) →
     (s.line.skipping = true ∨
       (o.source ≠ s.line.address ∧
         (s.line.state ≠ .active ∨ s.destined o.dest = .notOurs ∨
           (s.destined o.dest = .shared ∧ orderDirectOnly kind = true)))) →
     exec i s = .next s) ∧
  (∀ (code : Byte) (o : OrderFrame) (s : State), orderOfCode code = none → Delivered o s →
     (s.direct o = true →
       Effects (.unknownOrder code o) s (offerFrame (answerFrame s o.source code o.tag .unknown []) s)) ∧
     (s.direct o = false → exec (.unknownOrder code o) s = .next s)) ∧
  (∀ (s : State) (o : OrderFrame) (code : Byte) (result : Result) (data : List Byte) (m : Bool),
     answer false m code o result data s = s ∧
     answer true m code o result data s =
       offerMarked
         { cls := 1, source := s.line.address, dest := 0#3 ++ o.source, kind := .answer, authority := 0,
           payload := code :: o.tag :: byteOf (resultCode result) :: data } m s) ∧
  (∀ (s : State) (value : BitVec 5),
     s.destined (0#3 ++ value) =
       (if value = 31 then .shared else if value = s.line.address then .direct else .notOurs) ∧
     s.destined (2#3 ++ value) =
       (if s.store.settings.groups.getLsbD value.toNat = true then .shared else .notOurs) ∧
     s.destined (4#3 ++ value) = .shared) ∧
  (∀ kind : OrderKind,
     orderDirectOnly kind = true ↔
       kind = .query ∨ kind = .setKeystone ∨ kind = .nudgeKeystone ∨ kind = .storePreset ∨ kind = .acknowledge ∨
         kind = .wearReset ∨ kind = .settingsWrite ∨ kind = .restart)

/-- The lockout check (R131): an authority below the minimum is refused AUTHORITY; then, for a lockable kind alone,
an authority at or below the effective level is refused LOCKED; else the order passes. What each kind requires
(R39): its minimum authority, and whether it is lockable. -/
def Obligations.LockoutJudgesInTwoSteps : Prop :=
  ∀ (authority minimum : Nat) (lockable : Bool) (s : State),
    (authority < minimum → s.lockoutCheck authority minimum lockable = some .authority) ∧
    (minimum ≤ authority → lockable = true → authority ≤ max (topLevel s.lockout.stack) s.lockout.floor →
      s.lockoutCheck authority minimum lockable = some .locked) ∧
    (minimum ≤ authority → lockable = false ∨ max (topLevel s.lockout.stack) s.lockout.floor < authority →
      s.lockoutCheck authority minimum lockable = none) ∧
    (∀ kind : OrderKind,
      orderMinAuthority kind =
          (match kind with
            | .light | .rest | .showPicture | .blank | .select | .query => 0
            | .setMode | .setKeystone | .nudgeKeystone | .recallPreset | .lock | .unlock | .acknowledge => 2
            | .aliasWrite | .aliasClear | .storePreset | .entryWrite | .entryClear | .timeSet => 4
            | .wearReset | .settingsWrite | .restart => 6) ∧
        (orderLockable kind = false ↔
          kind = .lock ∨ kind = .unlock ∨ kind = .acknowledge ∨ kind = .query ∨ kind = .wearReset ∨
            kind = .settingsWrite ∨ kind = .restart))

/-! ## Orders: lamp -/

/-- LIGHT that reaches the Lamp Sequencer (R51, R60, R61, R161), by lamp state and bar: a strike begins with cause
ORDER, STARTED; a held strike of cause ORDER is set, HELD; a lamp on goes on, a cause of SCHEDULE becoming ORDER,
DONE; each of these clears the declined flag. With a bar nothing happens in DARK and COOLDOWN, STATE. -/
def Obligations.LightActsByLampState : Prop :=
  ∀ (o : OrderFrame) (s : State), Reaches .light o s →
    let cleared := s.withDuty { s.duty with declined := false }
    (s.lamp.state = .dark → s.barred = false →
      Effects (.light o) s
        (answer (s.direct o) false 0x10 o .started []
          (cleared.withLamp
            { s.lamp with
              state := .preheat
              timer := some (s.now + s.store.settings.preheat * 1000)
              inGap := false
              attempts := 0
              heldStrike := none
              cause := .order }))) ∧
    (s.lamp.state = .cooldown → s.barred = false →
      Effects (.light o) s
        (answer (s.direct o) false 0x10 o .held [] (cleared.withLamp { s.lamp with heldStrike := some .order }))) ∧
    (lampOn s.lamp.state = true →
      Effects (.light o) s
        (answer (s.direct o) false 0x10 o .done []
          (cleared.withLamp
            { s.lamp with cause := if s.lamp.cause = .schedule then .order else s.lamp.cause }))) ∧
    (s.lamp.state = .dark ∨ s.lamp.state = .cooldown → s.barred = true →
      Effects (.light o) s (answer (s.direct o) false 0x10 o .state [] s))

/-- REST that reaches the Lamp Sequencer (R57, R62, R63), always DONE: a lamp on enters COOLDOWN, and declines the
station's duty if its cause was SCHEDULE; in COOLDOWN the held strike is cleared; in DARK nothing happens. Entry
into COOLDOWN (R57, R79, R88): timer C, attempt count 0, cause NONE, no held strike; from WARMUP or LIT it is an
extinction, which starts the count of seconds since extinction and marks the wear record. Nothing else changes. -/
def Obligations.RestEndsInCooldown : Prop :=
  (∀ (o : OrderFrame) (s : State), Reaches .rest o s →
     (lampOn s.lamp.state = true →
       Effects (.rest o) s
         (answer (s.direct o) false 0x11 o .done []
           ((enterCooldown s).withDuty
             { s.duty with declined := s.duty.declined || s.lamp.cause == .schedule }))) ∧
     (s.lamp.state = .cooldown →
       Effects (.rest o) s
         (answer (s.direct o) false 0x11 o .done [] (s.withLamp { s.lamp with heldStrike := none }))) ∧
     (s.lamp.state = .dark → Effects (.rest o) s (answer (s.direct o) false 0x11 o .done [] s))) ∧
  (∀ s : State,
     let cooled := s.withLamp
       { s.lamp with
         state := .cooldown
         timer := some (s.now + s.store.settings.cooldown * 1000)
         inGap := false
         attempts := 0
         heldStrike := none
         cause := .noCause }
     (s.lamp.state = .preheat ∨ s.lamp.state = .ignite → enterCooldown s = cooled) ∧
     (s.lamp.state = .warmup ∨ s.lamp.state = .lit →
       enterCooldown s =
         (cooled.withWear { s.wear with sinceExtinction := some 0 }).withStore
           { s.store with
             list := if RecordId.wear ∈ s.store.list then s.store.list else s.store.list ++ [.wear] }))

/-- SET MODE that reaches the Lamp Sequencer (R67, R68): the requested mode is set in any lamp state; DONE if the
served mode then equals it, and ADJUSTED if not, which is the case of FULL with a hot housing or a life state other
than none. SHOW and BLANK that reach the Source Router (R107, R108): the picture-wanted flag is set or cleared.
BLANK is answered DONE; SHOW is answered DONE when the lamp is LIT and the router SETTLED, and HELD otherwise. The
served mode (R68) is the requested one but for FULL with a hot housing, 80 °C or more, or a life state other than
none, which is served NORMAL. The output command standing at the switcher (R107) shows the picture while the lamp is
LIT, the router SETTLED and the flag set, and mutes it otherwise. -/
def Obligations.ModeAndPictureOrders : Prop :=
  (∀ (o : OrderFrame) (mode : PowerMode) (s : State), Reaches .setMode o s → o.args = [byteOf (modeCode mode)] →
     Effects (.setMode o) s
       (answer (s.direct o) false 0x12 o
         (if mode = .full ∧ (s.hot = true ∨ s.life ≠ .noLife) then .adjusted else .done) []
         (s.withLamp { s.lamp with requested := mode }))) ∧
  (∀ (o : OrderFrame) (s : State), Reaches .showPicture o s →
    Effects (.showPicture o) s
      (answer (s.direct o) false 0x20 o
        (if s.lamp.state = .lit ∧ s.router.selection = .settled then .done else .held) []
        (s.withRouter { s.router with wanted := true }))) ∧
  (∀ (o : OrderFrame) (s : State), Reaches .blank o s →
    Effects (.blank o) s
      (answer (s.direct o) false 0x21 o .done [] (s.withRouter { s.router with wanted := false }))) ∧
  (∀ s : State,
    (s.hot = true ↔ ∃ t, s.lamp.housing = some t ∧ 80 ≤ t) ∧
    (s.lamp.requested = .full → s.hot = true ∨ s.life ≠ .noLife → s.served = .normal) ∧
    (s.lamp.requested ≠ .full ∨ (s.hot = false ∧ s.life = .noLife) → s.served = s.lamp.requested) ∧
    (s.switcherOutput = .showPicture ↔
      s.lamp.state = .lit ∧ s.router.selection = .settled ∧ s.router.wanted = true))

/-! ## Orders: sources and picture -/

/-- A selection of source S by the selection state (R96, R98, R99): UNKNOWN for a number with no entry; a switch
begins from NO_SOURCE and SEARCHING, and from SETTLED to another source, the switcher commanded afresh; in SWITCHING
the pending target is set, or cleared when S is the target of the switch in flight; DONE for the source shown. Only
the router changes. SELECT that reaches the Source Router (R98, R109): the selection, its answer, and, for a result
of STARTED, one CUE of the order's authority for each group in both the cue-send mask and the membership, in
ascending order. -/
def Obligations.SelectionFollowsTheTable : Prop :=
  (∀ (n : Nat) (s : State),
     (s.router.lookup n = none → takeSelect n s = (s, .unknown)) ∧
     (∀ e, s.router.lookup n = some e →
       (s.router.selection = .noSource ∨ s.router.selection = .searching ∨
           (s.router.selection = .settled ∧ s.router.current ≠ some n) →
         takeSelect n s =
           (s.withRouter
             { s.router with
               selection := .switching
               current := some n
               pendingTarget := none
               inFlightPort := some e.port
               port := none
               switchTimer := some (s.now + 3000)
               searchTimer := none
               inputCommands := s.router.inputCommands + 1 }, .started)) ∧
       (s.router.selection = .switching →
         takeSelect n s =
           (s.withRouter
             { s.router with pendingTarget := if s.router.current = some n then none else some n }, .started)) ∧
       (s.router.selection = .settled → s.router.current = some n → takeSelect n s = (s, .done)))) ∧
  (∀ (o : OrderFrame) (n : Byte) (s : State), Reaches .select o s → o.args = [n] →
     let r := takeSelect n.toNat s
     let answered := answer (s.direct o) false 0x22 o r.2 [] r.1
     (r.2 ≠ .started → Effects (.select o) s answered) ∧
     (r.2 = .started →
       Effects (.select o) s
         (((List.range 8).filter fun g =>
             s.store.settings.cueSend.getLsbD g && s.store.settings.groups.getLsbD g).foldl
           (fun t g =>
             offerFrame
               { cls := 1, source := s.line.address, dest := 0x80, kind := .cue, authority := o.authority,
                 payload := [byteOf g, n] } t)
           answered)))

/-- ALIAS WRITE that reaches the Source Router (R94, R105): CONFLICT for a fallback of its own number; else the
entry of its number, or the lowest empty position, holds the written entry and its record is marked, DONE; FULL with
no position. Replacing the current source's entry with another port begins a switch to it; nothing else changes.
ALIAS CLEAR that reaches the Source Router (R95, R104): the entry's position is emptied and its record marked, DONE.
Clearing the current source parks the router, or begins the switch to a pending target; clearing the pending target
drops it. A number with no entry is answered UNKNOWN. -/
def Obligations.AliasPositionsAreWrittenAndCleared : Prop :=
  (∀ (o : OrderFrame) (e : AliasEntry) (s : State), Reaches .aliasWrite o s → aliasOf o.args = some e →
     let written (i : Fin 16) := mark (.aliasAt i) (s.withRouter { s.router with table := s.router.table.set i (some e) })
     (e.fallback = some e.source → Effects (.aliasWrite o) s (answer (s.direct o) false 0x23 o .conflict [] s)) ∧
     (e.fallback ≠ some e.source →
       (∀ (i : Fin 16) (old : AliasEntry), s.router.table[i] = some old → old.source = e.source →
         (∀ (j : Fin 16) (x : AliasEntry), s.router.table[j] = some x → x.source = e.source → j = i) →
         (s.router.current ≠ some e.source ∨ old.port = e.port ∨ s.router.selection = .noSource →
           Effects (.aliasWrite o) s (answer (s.direct o) false 0x23 o .done [] (written i))) ∧
         (s.router.current = some e.source → old.port ≠ e.port → s.router.selection ≠ .noSource →
           Effects (.aliasWrite o) s
             (answer (s.direct o) false 0x23 o .done []
               ((written i).withRouter
                 { (written i).router with
                   selection := .switching
                   pendingTarget := if s.router.selection = .switching then s.router.pendingTarget else none
                   inFlightPort := some e.port
                   port := none
                   switchTimer := some (s.now + 3000)
                   searchTimer := none
                   inputCommands := s.router.inputCommands + 1 })))) ∧
       ((∀ (j : Fin 16) (x : AliasEntry), s.router.table[j] = some x → x.source ≠ e.source) →
         (∀ i : Fin 16, s.router.table[i] = none → (∀ j : Fin 16, j < i → s.router.table[j] ≠ none) →
           Effects (.aliasWrite o) s (answer (s.direct o) false 0x23 o .done [] (written i))) ∧
         ((∀ j : Fin 16, s.router.table[j] ≠ none) →
           Effects (.aliasWrite o) s (answer (s.direct o) false 0x23 o .full [] s))))) ∧
  (∀ (o : OrderFrame) (n : Byte) (s : State), Reaches .aliasClear o s → o.args = [n] →
     ((∀ (j : Fin 16) (x : AliasEntry), s.router.table[j] = some x → x.source ≠ n.toNat) →
       Effects (.aliasClear o) s (answer (s.direct o) false 0x24 o .unknown [] s)) ∧
     (∀ (i : Fin 16) (old : AliasEntry), s.router.table[i] = some old → old.source = n.toNat →
       (∀ (j : Fin 16) (x : AliasEntry), s.router.table[j] = some x → x.source = n.toNat → j = i) →
       let emptied := mark (.aliasAt i) (s.withRouter { s.router with table := s.router.table.set i none })
       (s.router.current ≠ some n.toNat → (s.router.selection ≠ .switching ∨ s.router.pendingTarget ≠ some n.toNat) →
         Effects (.aliasClear o) s (answer (s.direct o) false 0x24 o .done [] emptied)) ∧
       (s.router.current ≠ some n.toNat → s.router.selection = .switching → s.router.pendingTarget = some n.toNat →
         Effects (.aliasClear o) s
           (answer (s.direct o) false 0x24 o .done []
             (emptied.withRouter { emptied.router with pendingTarget := none }))) ∧
       (s.router.current = some n.toNat → s.router.selection ≠ .noSource →
         s.router.selection ≠ .switching ∨ s.router.pendingTarget = none →
         Effects (.aliasClear o) s
           (answer (s.direct o) false 0x24 o .done []
             (emptied.withRouter
               { emptied.router with
                 selection := .noSource
                 current := none
                 pendingTarget := none
                 inFlightPort := none
                 port := none
                 switchTimer := none
                 searchTimer := none
                 inputCommands := s.router.inputCommands + 1 }))) ∧
       (∀ m e, s.router.current = some n.toNat → s.router.selection = .switching → s.router.pendingTarget = some m →
         m ≠ n.toNat → s.router.lookup m = some e →
         Effects (.aliasClear o) s
           (answer (s.direct o) false 0x24 o .done []
             (emptied.withRouter
               { emptied.router with
                 selection := .switching
                 current := some m
                 pendingTarget := none
                 inFlightPort := some e.port
                 port := none
                 switchTimer := some (s.now + 3000)
                 searchTimer := none
                 inputCommands := s.router.inputCommands + 1 })))))

/-! ## Orders: keystone -/

/-- The pair of R115's clamp: each value limited to its range, then kh reduced in magnitude to the combined limit.
It meets R114's limits, keeps a pair that meets them, keeps signs, never reduces kv below its own range's limit, and
has the largest |kh| the rule allows. SET KEYSTONE that reaches the Geometry Unit (R115): the clamped pair becomes
current, DONE when the pair received meets the limits and ADJUSTED when a clamp was applied. -/
def Obligations.SetKeystoneClampsThePair : Prop :=
  (∀ k : Keystone,
     (clampPair k).ok = true ∧ (clampPair k = k ↔ k.ok = true) ∧
     (clampPair k).kv = max (-40) (min 40 k.kv) ∧
     ((clampPair k).kh.natAbs = min (min 30 k.kh.natAbs) ((120 - 3 * (clampPair k).kv.natAbs) / 4)) ∧
     (0 ≤ k.kh → 0 ≤ (clampPair k).kh) ∧ (k.kh ≤ 0 → (clampPair k).kh ≤ 0)) ∧
  (∀ (o : OrderFrame) (kv kh : Byte) (s : State), Reaches .setKeystone o s → o.args = [kv, kh] →
     let pair : Keystone := { kv := kv.toInt, kh := kh.toInt }
     Effects (.setKeystone o) s
       (answer (s.direct o) false 0x30 o (if pair.ok then .done else .adjusted) [] (makeCurrent (clampPair pair) s)))

/-- A pair becomes the current keystone (R114, R119, R126): its corner set, computed from it, is sent with the next
handoff number when the handoff is IDLE and becomes the pending set when it is BUSY; the geometry record is marked.
Nothing else changes. -/
def Obligations.KeystoneBecomesCurrent : Prop :=
  ∀ (k : Keystone) (s : State),
    let corners := cornersOf s.store.settings.rasterWidth s.store.settings.rasterHeight k
    (s.geometry.inFlight = none →
      makeCurrent k s =
        mark .geometry
          (s.withGeometry
            { s.geometry with
              current := k
              inFlight := some { number := (s.geometry.lastNumber + 1) % 256, corners := corners, sends := 1 }
              timer := some (s.now + 200)
              lastNumber := (s.geometry.lastNumber + 1) % 256 })) ∧
    (s.geometry.inFlight ≠ none →
      makeCurrent k s =
        mark .geometry (s.withGeometry { s.geometry with current := k, pendingSet := some corners }))

/-- NUDGE KEYSTONE that reaches the Geometry Unit (R116), from a current pair within the limits: the step is added
to the named axis, which alone is clamped, to its range and then to the largest magnitude the combined limit leaves
beside the other axis; DONE when the result is the sum, ADJUSTED when a clamp altered it. -/
def Obligations.NudgeMovesOneAxis : Prop :=
  ∀ (o : OrderFrame) (step : Byte) (s : State), Reaches .nudgeKeystone o s → s.geometry.current.ok = true →
    let old := s.geometry.current
    (o.args = [0, step] →
      let sum := old.kv + step.toInt
      let bound : Int := min 40 ((120 - 4 * old.kh.natAbs) / 3 : Nat)
      let new := max (-bound) (min bound sum)
      Effects (.nudgeKeystone o) s
        (answer (s.direct o) false 0x31 o (if new = sum then .done else .adjusted) []
          (makeCurrent { kv := new, kh := old.kh } s))) ∧
    (o.args = [1, step] →
      let sum := old.kh + step.toInt
      let bound : Int := min 30 ((120 - 3 * old.kv.natAbs) / 4 : Nat)
      let new := max (-bound) (min bound sum)
      Effects (.nudgeKeystone o) s
        (answer (s.direct o) false 0x31 o (if new = sum then .done else .adjusted) []
          (makeCurrent { kv := old.kv, kh := new } s)))

/-- STORE PRESET and RECALL PRESET that reach the Geometry Unit (R123, R124): the current pair is copied into the
slot and the record marked, DONE; a filled slot's pair becomes current, DONE; an empty slot is answered STATE. -/
def Obligations.PresetsAreStoredAndRecalled : Prop :=
  (∀ (o : OrderFrame) (slot : Fin 4) (s : State), Reaches .storePreset o s → o.args = [byteOf slot] →
    Effects (.storePreset o) s
      (answer (s.direct o) false 0x32 o .done []
        (mark .geometry
          (s.withGeometry { s.geometry with presets := s.geometry.presets.set slot (some s.geometry.current) })))) ∧
  (∀ (o : OrderFrame) (slot : Fin 4) (s : State), Reaches .recallPreset o s → o.args = [byteOf slot] →
    (∀ k, s.geometry.presets[slot] = some k →
      Effects (.recallPreset o) s (answer (s.direct o) false 0x33 o .done [] (makeCurrent k s))) ∧
    (s.geometry.presets[slot] = none →
      Effects (.recallPreset o) s (answer (s.direct o) false 0x33 o .state [] s)))

/-- The corner set of a pair on a raster (R117), from its four insets, each rounded down; the set carries its pair.
The retained width and height of R118. For every pair within the limits of R114, on every raster of R181, the
corners lie inside the raster and the retained figures are 800 to 1000. -/
def Obligations.CornersLieInsideTheRaster : Prop :=
  ∀ (k : Keystone) (w h : Nat),
    let dt := w * (max k.kv 0).toNat / 400
    let db := w * (max (-k.kv) 0).toNat / 400
    let dr := h * (max k.kh 0).toNat / 300
    let dl := h * (max (-k.kh) 0).toNat / 300
    cornersOf w h k =
      { topLeft := (dt, dl), topRight := (w - 1 - dt, dr), bottomRight := (w - 1 - db, h - 1 - dr),
        bottomLeft := (db, h - 1 - dl), pair := k } ∧
    retainedWidth w k = 1000 * (w - 2 * max dt db) / w ∧
    retainedHeight h k = 1000 * (h - 2 * max dl dr) / h ∧
    (k.ok = true ↔ k.kv.natAbs ≤ 40 ∧ k.kh.natAbs ≤ 30 ∧ 3 * k.kv.natAbs + 4 * k.kh.natAbs ≤ 120) ∧
    (k.ok = true → 640 ≤ w → w ≤ 4096 → 480 ≤ h → h ≤ 2400 →
      (∀ c ∈ [(cornersOf w h k).topLeft, (cornersOf w h k).topRight, (cornersOf w h k).bottomRight,
          (cornersOf w h k).bottomLeft], c.1 < w ∧ c.2 < h) ∧
      (800 ≤ retainedWidth w k ∧ retainedWidth w k ≤ 1000) ∧
      (800 ≤ retainedHeight h k ∧ retainedHeight h k ≤ 1000))

/-! ## Orders: lockout -/

/-- LOCK of level v that reaches the Lockout Unit (R134): RANGE when v is above the order's authority; else CONFLICT
when the stack holds an entry and v is not above its top; else FULL with 4 entries; else the entry is pushed on top,
its holder the order's source, its minutes the duration or absent for 0, and the effective level becomes the greater
of v and the floor, DONE. A refused LOCK changes nothing. -/
def Obligations.LockIsPushedInThreeSteps : Prop :=
  ∀ (o : OrderFrame) (v d1 d0 : Byte) (s : State), Reaches .lock o s → o.args = [v, d1, d0] →
    let refusal :=
      if o.authority.toNat < v.toNat then some Result.range
      else if s.lockout.stack ≠ [] ∧ v.toNat ≤ topLevel s.lockout.stack then some Result.conflict
      else if s.lockout.stack.length ≥ 4 then some Result.full
      else none
    let duration := d1.toNat * 256 + d0.toNat
    let pushed := s.withLockout
      { s.lockout with
        stack := s.lockout.stack ++
          [{ level := v.toNat, holder := o.source.toNat, minutes := if duration = 0 then none else some duration }] }
    (∀ r, refusal = some r → Effects (.lock o) s (answer (s.direct o) false 0x40 o r [] s)) ∧
    (refusal = none →
      Effects (.lock o) s (answer (s.direct o) false 0x40 o .done [] pushed) ∧
        pushed.level = max v.toNat s.lockout.floor)

/-- UNLOCK with the all-flag clear that reaches the Lockout Unit (R135), in a stack of distinct levels, for
authority a: CONFLICT when no entry is named; AUTHORITY when the named entry's level is above a; else that entry
alone is removed, DONE. A refused UNLOCK changes nothing, and no holder is compared. -/
def Obligations.UnlockRemovesTheNamedEntry : Prop :=
  ∀ (o : OrderFrame) (v flags : Byte) (s : State), Reaches .unlock o s → o.args = [v, flags] →
    flags.getLsbD 0 = false → (s.lockout.stack.Pairwise fun a b => a.level < b.level) →
    let named (e : LockEntry) : Prop :=
      e ∈ s.lockout.stack ∧ (v.toNat = e.level ∨ (v.toNat = 0 ∧ s.lockout.stack.getLast? = some e))
    ((∀ e, ¬ named e) → Effects (.unlock o) s (answer (s.direct o) false 0x41 o .conflict [] s)) ∧
    (∀ e, named e → 1 ≤ e.level → o.authority.toNat < e.level →
      Effects (.unlock o) s (answer (s.direct o) false 0x41 o .authority [] s)) ∧
    (∀ e, named e → 1 ≤ e.level → e.level ≤ o.authority.toNat →
      Effects (.unlock o) s
        (answer (s.direct o) false 0x41 o .done []
          (s.withLockout { s.lockout with stack := s.lockout.stack.erase e })))

/-- UNLOCK with the all-flag set that reaches the Lockout Unit (R136), in a stack of rising levels: the entries at
or below the order's authority are removed, a run from the bottom, whatever the level argument; those above stay in
their order; at authority 7 none of level 7 or less stays; the floor stands; the answer is DONE. -/
def Obligations.UnlockAllRemovesARun : Prop :=
  ∀ (o : OrderFrame) (v flags : Byte) (s : State), Reaches .unlock o s → o.args = [v, flags] →
    flags.getLsbD 0 = true → (s.lockout.stack.Pairwise fun a b => a.level < b.level) →
    (∀ e ∈ s.lockout.stack, e.level ≤ 7) →
    ∃ removed kept, s.lockout.stack = removed ++ kept ∧ (∀ e ∈ removed, e.level ≤ o.authority.toNat) ∧
      (∀ e ∈ kept, o.authority.toNat < e.level) ∧ (o.authority = 7 → kept = []) ∧
      Effects (.unlockAll o) s
        (answer (s.direct o) false 0x41 o .done [] (s.withLockout { s.lockout with stack := kept }))

/-- MINUTE_TICK (R137), once a sixtieth tick has made it due: every entry's remaining minutes fall by one, an entry
whose minutes reach 0 leaves the stack, an entry without a duration stays. The floor stands, and so does the count
of ticks. The model's choice (log 6): a MINUTE_TICK that is not due changes nothing. -/
def Obligations.MinuteTickLowersTheMinutes : Prop :=
  (∀ s : State, s.released = true → s.lockout.minuteDue = true → (∀ e ∈ s.lockout.stack, e.minutes ≠ some 0) →
    Effects .minuteTick s
      (s.withLockout
        { s.lockout with
          stack := (s.lockout.stack.filter fun e => e.minutes != some 1).map fun e =>
            { e with minutes := e.minutes.map fun n => n - 1 }
          minuteDue := false })) ∧
  (∀ s : State, s.lockout.minuteDue = false → exec .minuteTick s = .next s)

/-! ## Orders: clock and schedule -/

/-- ENTRY WRITE and ENTRY CLEAR that reach the Schedule Unit (R149, R150), DONE: the slot holds the entry written,
or is emptied, and its record is marked; with a valid clock the schedule is evaluated with the slot written, as
`ScheduleIsEvaluated` says. Clearing an empty slot changes nothing. -/
def Obligations.EntriesAreWrittenAndCleared : Prop :=
  (∀ (o : OrderFrame) (slot : Fin 32) (e : Entry) (bytes : List Byte) (s : State), Reaches .entryWrite o s →
    o.args = byteOf slot :: bytes → parseEntry bytes = some e →
    let held := mark (.entryAt slot) (s.withSchedule { s.schedule with table := s.schedule.table.set slot (some e) })
    Effects (.entryWrite o) s
      (answer (s.direct o) false 0x50 o .done []
        (if s.schedule.valid then evaluateSchedule (some slot) held else held))) ∧
  (∀ (o : OrderFrame) (slot : Fin 32) (s : State), Reaches .entryClear o s → o.args = [byteOf slot] →
    let emptied := mark (.entryAt slot) (s.withSchedule { s.schedule with table := s.schedule.table.set slot none })
    (s.schedule.table[slot] ≠ none →
      Effects (.entryClear o) s
        (answer (s.direct o) false 0x51 o .done []
          (if s.schedule.valid then evaluateSchedule (some slot) emptied else emptied))) ∧
    (s.schedule.table[slot] = none →
      Effects (.entryClear o) s (answer (s.direct o) false 0x51 o .done [] s)))

/-- The governing entry (R152): none while the clock is invalid or no entry meets the three conditions; else one
that meets them and, of every other that does, starts later, or at the same minute for a lower group, or for the
same group from a higher slot. -/
def Obligations.GoverningEntryIsTheLatest : Prop :=
  ∀ s : State,
    let meets (e : Entry) : Prop :=
      e.days.getLsbD s.schedule.day = true ∧ e.start ≤ s.schedule.minute ∧ s.schedule.minute < e.stop ∧
        s.store.settings.groups.getLsbD e.group = true
    (s.schedule.valid = false → s.entryFound = none) ∧
    (s.entryFound = none → s.schedule.valid = true →
      ∀ (i : Fin 32) (e : Entry), s.schedule.table[i] = some e → ¬ meets e) ∧
    (∀ slot e, s.entryFound = some (slot, e) →
      meets e ∧ (∃ i : Fin 32, i.val = slot ∧ s.schedule.table[i] = some e) ∧
      ∀ (j : Fin 32) (x : Entry), s.schedule.table[j] = some x → meets x → j.val ≠ slot →
        x.start < e.start ∨
        (x.start = e.start ∧ (e.group < x.group ∨ (e.group = x.group ∧ j.val < slot))))

/-- An evaluation of the schedule (R153, R155): the entry found is applied unless its identity, slot and start, is
the one held and its slot was not written in the event; with none found, a governing entry held ends: floor 0, no
entry for Shared Duty, the declined flag clear. Shared Duty evaluates in every case. An entry is applied (R154,
R106, R125, R67, R139, R159): its source is selected, its filled preset recalled, its mode requested, its lock level
or 0 becomes the floor, its group and demand go to Shared Duty and the declined flag is cleared. An absent part
leaves its owner as it is. The geometry record is marked when a filled preset is recalled, and no other record is
(R125, R126). -/
def Obligations.ScheduleIsEvaluated : Prop :=
  (∀ (written : Option Nat) (s : State),
     (∀ slot e, s.entryFound = some (slot, e) → s.schedule.governing = some (slot, e.start) → written ≠ some slot →
       evaluateSchedule written s = evaluate s) ∧
     (∀ slot e, s.entryFound = some (slot, e) →
       (s.schedule.governing ≠ some (slot, e.start) ∨ written = some slot) →
       evaluateSchedule written s =
         evaluate (applyEntry e (s.withSchedule { s.schedule with governing := some (slot, e.start) }))) ∧
     (s.entryFound = none → s.schedule.governing = none → evaluateSchedule written s = evaluate s) ∧
     (s.entryFound = none → s.schedule.governing ≠ none →
       evaluateSchedule written s =
         evaluate
           (((s.withSchedule { s.schedule with governing := none }).withLockout { s.lockout with floor := 0 }).withDuty
             { s.duty with entryGroup := none, entryDemand := none, declined := false }))) ∧
  (∀ (e : Entry) (s : State),
     let t := applyEntry e s
     t.router = (match e.source with | some n => (takeSelect n s).1.router | none => s.router) ∧
     t.geometry =
       (match e.preset with
         | some n => (match s.geometry.preset n with | some k => (makeCurrent k s).geometry | none => s.geometry)
         | none => s.geometry) ∧
     t.lamp = { s.lamp with requested := e.mode.getD s.lamp.requested } ∧
     t.lockout = { s.lockout with floor := e.level.getD 0 } ∧
     t.duty = { s.duty with entryGroup := some e.group, entryDemand := some e.demand, declined := false } ∧
     t.line = s.line ∧ t.peers = s.peers ∧ t.wear = s.wear ∧ t.schedule = s.schedule ∧ t.conditions = s.conditions ∧
     t.refusedTimer = s.refusedTimer ∧
     t.store =
       (match e.preset with
         | some n => (match s.geometry.preset n with | some _ => (mark .geometry s).store | none => s.store)
         | none => s.store))

/-- MINUTE_BOUNDARY (R143, R147, R153): the time-reference station offers its CLOCK, with the day and minute as they
stood after the boundary and second 0, and the schedule is evaluated. The model's choices: it acts once, while the
boundary that a tick crossed with a valid clock is due, and evaluates for the time that stands when it is taken (log
6); the CLOCK joins the queue before whatever the evaluation offers and before the
BEACON of the same boundary (log 25); and a MINUTE_BOUNDARY that is not due changes nothing (log 2). -/
def Obligations.BoundaryIsEvaluatedOnce : Prop :=
  ∀ s : State, s.released = true →
    let taken := s.withSchedule { s.schedule with boundaryDue := none }
    (∀ day minute, s.schedule.boundaryDue = some (day, minute) → s.schedule.valid = true →
      Effects .minuteBoundary s
        (evaluateSchedule none
          (if s.line.timeReference then
            offerFrame
              { cls := 2, source := s.line.address, dest := 0x80, kind := .clock, authority := 0,
                payload := [byteOf day, byteOf (minute / 256), byteOf minute, 0] } taken
          else taken))) ∧
    (s.schedule.boundaryDue = none ∨ s.schedule.valid = false → exec .minuteBoundary s = .next s)

/-! ## Orders: conditions, queries, wear, settings, restart -/

/-- ACKNOWLEDGE that reaches the Condition Register (R17, R71, R176): every named latched condition is cleared, but
for THERMAL TRIP while the held housing sample is 70 °C or more; no other condition changes; clearing TRANSMIT
FAILED empties the failure log; the answer is DONE with the set still latched. -/
def Obligations.AcknowledgeClearsTheNamed : Prop :=
  ∀ (o : OrderFrame) (a1 a0 : Byte) (s : State), Reaches .acknowledge o s → o.args = [a1, a0] →
    ∃ u, Effects (.acknowledge o) s
        (answer (s.direct o) false 0x60 o .done [byteOf (u.conditions.toNat / 256), byteOf u.conditions.toNat] u) ∧
      (∀ c, u.latched c = true ↔ s.latched c = true ∧
        ((a1 ++ a0).getLsbD (conditionCode c) = false ∨
          (c = .thermalTrip ∧ ∃ t, s.lamp.housing = some t ∧ 70 ≤ t))) ∧
      u = (s.withConditions u.conditions).withLine
        (if s.latched .transmitFailed = true ∧ u.latched .transmitFailed = false then
          { s.line with failure := none, overflow := false } else s.line)

/-- Every QUERY of a record, sent directly, that is taken (R21, R34, R44, R45, R92, R112, R129, R141, R158): its
ANSWER, DONE with the record's data as composed at that moment, joins the queue, there being room, and nothing else
changes. What the eleven records report (R44, R45; layouts of 1.10), and a data field of length zero past a record's
parts or at an empty position. STATUS is the beacon as it would now be composed (R21, R22): role 1, lamp state,
served mode, lit cause, offer or 255, the flags declined, picture shown and clock valid, the wear key in tenths of
hours, the hall source shown, 0 unless SETTLED, the effective level, the latched conditions with bit 9 from the life
limit on and bit 10 from the expiry limit on, the group membership. -/
def Obligations.QueriesReportTheState : Prop :=
  (∀ (i : Instr) (o : OrderFrame) (record index : Byte) (s : State), orderCarried i = some (.query, o) →
     Reaches .query o s → o.args = [record, index] → s.line.queue.length < 8 →
     exec i s =
       .next
         (s.withLine
           { s.line with
             queue := s.line.queue ++
               [{ frame := answerFrame s o.source 0x61 o.tag .done (queryData s record.toNat index.toNat)
                  attempts := 0
                  forRestart := false }] })) ∧
  (∀ (s : State) (i : Nat),
     queryData s 0 i = s.beaconNow ∧
     s.beaconNow =
       [1,
         (match s.lamp.state with
           | .dark => 0 | .preheat => 1 | .ignite => 2 | .warmup => 3 | .lit => 4 | .cooldown => 5),
         (match s.served with | .eco => 0 | .normal => 1 | .full => 2),
         (match s.lamp.cause with | .noCause => 0 | .order => 1 | .key => 2 | .schedule => 3),
         byteOf (s.duty.offer.getD 255),
         byteOf ((if s.duty.declined = true then 1 else 0) +
           (if s.lamp.state = .lit ∧ s.router.selection = .settled ∧ s.router.wanted = true then 2 else 0) +
           (if s.schedule.valid = true then 4 else 0))] ++
         bytesOf 3 ((s.store.settings.ratedHours * 3600 - s.wear.record.equivalent) / 360) ++
         [byteOf (if s.router.selection = .settled then s.router.current.getD 0 else 0),
           byteOf (max (match s.lockout.stack.getLast? with | some e => e.level | none => 0) s.lockout.floor)] ++
         bytesOf 2
           (s.conditions.toNat + (if s.store.settings.ratedHours * 3600 ≤ s.wear.record.equivalent then 512 else 0) +
             (if (s.store.settings.ratedHours + s.store.settings.overrunHours) * 3600 ≤ s.wear.record.equivalent
               then 1024 else 0)) ++
         [s.store.settings.groups] ∧
     queryData s 1 0 =
       bytesOf 4 s.wear.record.equivalent ++ [byteOf s.wear.record.residue] ++ bytesOf 4 s.wear.record.litSeconds ++
         bytesOf 3 (min s.wear.record.strikes 16777215) ++
         bytesOf 3 (match s.wear.sinceExtinction with | none => 0xFFFFFF | some n => min n 16777214) ++
         [byteOf (lifeCode s.life)] ∧
     queryData s 1 1 = byteOf s.wear.record.label.length :: s.wear.record.label ∧
     (1 < i → queryData s 1 i = []) ∧ (15 < i → queryData s 2 i = []) ∧ (31 < i → queryData s 3 i = []) ∧
     (14 < i → queryData s 5 i = []) ∧ (3 < i → queryData s 8 i = []) ∧
     (∀ j : Fin 16, queryData s 2 j = match s.router.table[j] with | some e => aliasBytes e | none => []) ∧
     (∀ j : Fin 32, queryData s 3 j = match s.schedule.table[j] with | some e => entryBytes e | none => []) ∧
     queryData s 4 i =
       (byteOf s.lockout.floor :: byteOf s.lockout.stack.length ::
         s.lockout.stack.flatMap fun e => byteOf e.level :: byteOf e.holder :: bytesOf 2 (e.minutes.getD 0)) ∧
     (∀ j : Fin 15, queryData s 5 j =
       match s.peers.table[j] with
       | some r => byteOf r.address.toNat :: byteOf (min ((s.now - r.heardAt) / 1000) 6) :: beaconBytes r.beacon
       | none => []) ∧
     (s.line.failure = none →
       queryData s 6 i = bytesOf 2 s.conditions.toNat ++ [0, 0, 0, 0, 0, 0]) ∧
     (∀ r, s.line.failure = some r →
       queryData s 6 i =
         bytesOf 2 s.conditions.toNat ++
           [byteOf (reasonCode r.reason), flagByte s.line.overflow, byteOf r.kind.code.toNat, r.dest,
             (r.codeTag.map Prod.fst).getD 0, (r.codeTag.map Prod.snd).getD 0]) ∧
     queryData s 7 i =
       [signedByteOf s.geometry.current.kv, signedByteOf s.geometry.current.kh,
         flagByte s.geometry.inFlight.isSome, flagByte s.geometry.pendingSet.isSome] ++
         bytesOf 2 (retainedWidth s.store.settings.rasterWidth s.geometry.current) ++
         bytesOf 2 (retainedHeight s.store.settings.rasterHeight s.geometry.current) ∧
     (∀ j : Fin 4, queryData s 8 j =
       match s.geometry.presets[j] with | some k => [signedByteOf k.kv, signedByteOf k.kh] | none => []) ∧
     queryData s 9 i =
       byteOf s.schedule.day :: bytesOf 2 s.schedule.minute ++ [byteOf s.schedule.second, flagByte s.schedule.valid] ∧
     queryData s 10 i = settingsBytes s.store.settings)

/-- WEAR RESET that reaches the Wear Counter (R86): in DARK the account becomes zero with the label carried, LIFE
LOW is cleared, the count of seconds since extinction stands and the wear record is marked, DONE; in any other lamp
state nothing changes, STATE. SETTINGS WRITE and RESTART that reach the Store (R182, R183), DONE: the settings
record to be stored is replaced, bits 4 to 7 of its notice mask 0, and marked, the image in effect standing as it
was; a restart is marked pending. After WEAR RESET the life state is none, or LIFE LOW when the margin is at or
above the life limit (R86; log 27 for the equal case). The model's choice (log 21): the restart waits for the ANSWER
of the RESTART that made it pending, and not for a second one's. -/
def Obligations.WearSettingsAndRestartOrders : Prop :=
  (∀ (o : OrderFrame) (len : Byte) (label : List Byte) (s : State), Reaches .wearReset o s → o.args = len :: label →
     (s.lamp.state = .dark →
       let zeroed := (s.withWear
           { s.wear with
             record := { equivalent := 0, residue := 0, litSeconds := 0, strikes := 0, label := label } }).withConditions
         (s.conditions &&& 0x1F7#9)
       Effects (.wearReset o) s (answer (s.direct o) false 0x62 o .done [] (mark .wear zeroed)) ∧
         (1 ≤ s.store.settings.ratedHours →
           zeroed.life =
             if s.store.settings.ratedHours ≤ s.store.settings.marginHours then .lifeLow else .noLife)) ∧
     (s.lamp.state ≠ .dark → Effects (.wearReset o) s (answer (s.direct o) false 0x62 o .state [] s))) ∧
  (∀ (o : OrderFrame) (x : Settings) (s : State), Reaches .settingsWrite o s → parseSettings o.args = some x →
    Effects (.settingsWrite o) s
      (answer (s.direct o) false 0x70 o .done [] (mark .settings (s.withStore { s.store with toStore := x })))) ∧
  (∀ (o : OrderFrame) (s : State), Reaches .restart o s →
    Effects (.restart o) s
      (answer (s.direct o) (!s.store.restartPending) 0x71 o .done []
        (s.withStore { s.store with restartPending := true })))

/-! ## Keys -/

/-- The POWER and BLANK keys (R46, R47), where the lockout check passes the order formed at the keypad authority:
LIGHT in DARK begins a strike of cause KEY and in COOLDOWN sets a held strike of cause KEY, both clearing the
declined flag; REST takes a lamp that is on into COOLDOWN; the picture-wanted flag changes. No ANSWER is formed. The
SOURCE key (R46, R47, R109): no order is formed, and nothing changes, when no entry's port has signal; else the
order SELECT of the number found is taken at the keypad authority, with CUE frames for a result of STARTED. The
number found has signal; it is the lowest such number above the reference point, or the lowest of all when there is
none above. -/
def Obligations.PowerBlankAndSourceKeys : Prop :=
  (∀ s : State, s.released = true → s.lamp.state = .dark → s.barred = false → s.keyPasses .light →
    Effects .powerKey s
      ((s.withDuty { s.duty with declined := false }).withLamp
        { s.lamp with
          state := .preheat
          timer := some (s.now + s.store.settings.preheat * 1000)
          inGap := false
          attempts := 0
          heldStrike := none
          cause := .key })) ∧
  (∀ s : State, s.released = true → s.lamp.state = .cooldown → s.barred = false → s.keyPasses .light →
    Effects .powerKey s
      ((s.withDuty { s.duty with declined := false }).withLamp { s.lamp with heldStrike := some .key })) ∧
  (∀ s : State, s.released = true → lampOn s.lamp.state = true → s.keyPasses .rest →
    Effects .powerKey s
      ((enterCooldown s).withDuty { s.duty with declined := s.duty.declined || s.lamp.cause == .schedule })) ∧
  (∀ s : State, s.released = true → s.keyPasses .blank →
    Effects .blankKey s (s.withRouter { s.router with wanted := !s.router.wanted })) ∧
  (∀ s : State, (∀ e, some e ∈ s.router.table.toList → s.router.signalOn e.port = false) →
    exec .sourceKey s = .next s) ∧
  (∀ (n : Nat) (s : State), s.released = true → s.keyPasses .select → 1 ≤ n → n ≤ 63 → s.router.nextSource = some n →
    (takeSelect n s).2 ≠ .unknown →
    Effects .sourceKey s
      (if (takeSelect n s).2 = .started then offerCues s.store.settings.keypadAuthority n (takeSelect n s).1
        else (takeSelect n s).1)) ∧
  (∀ (n : Nat) (r : Router), r.nextSource = some n →
    let signalled (m : Nat) : Prop := ∃ e, some e ∈ r.table.toList ∧ e.source = m ∧ r.signalOn e.port = true
    signalled n ∧
      (r.referencePoint < n → ∀ m, signalled m → r.referencePoint < m → n ≤ m) ∧
      (n ≤ r.referencePoint → ∀ m, signalled m → m ≤ r.referencePoint ∧ n ≤ m)) ∧
  (∀ r : Router,
    (∀ m, r.selection = .switching → r.pendingTarget = some m → r.referencePoint = m) ∧
    (∀ n, r.selection ≠ .switching ∨ r.pendingTarget = none → r.current = some n → r.referencePoint = n) ∧
    (r.selection = .noSource → r.current = none → r.referencePoint = 0))

/-- The keystone keys and refused keys (R46 to R48, R116): V+ and V− add 1 and −1 to kv, H+ and H− to kh, each where
the check passes; a sum beyond the limits is clamped on the named axis, taken, and shows nothing. A refused key
shows REFUSED for 1 s and changes nothing else: V and H at a keypad authority below 2, or LOCKED by the effective
level; POWER refused LIGHT by a bar or the level, or refused REST by the level; BLANK and SOURCE refused by the
level. REFUSED_TIMEOUT at the end of that 1 s ends the showing; before it, or with none running, it changes nothing
(the model's choice, logs 3 and 2). The indicator shows REFUSED while its time runs, else CLASH in CLASH, else
nothing. -/
def Obligations.KeystoneKeysAndRefusals : Prop :=
  (∀ (plus : Bool) (s : State), s.released = true → s.keyPasses .nudgeKeystone →
    let step : Int := if plus then 1 else -1
    let old := s.geometry.current
    let vertical : Keystone := { old with kv := old.kv + step }
    let horizontal : Keystone := { old with kh := old.kh + step }
    (vertical.ok = true → Effects (.vKey plus) s (makeCurrent vertical s)) ∧
    (horizontal.ok = true → Effects (.hKey plus) s (makeCurrent horizontal s)) ∧
    (old.ok = true →
      let v : Int := min 40 ((120 - 4 * old.kh.natAbs) / 3 : Nat)
      let h : Int := min 30 ((120 - 3 * old.kv.natAbs) / 4 : Nat)
      Effects (.vKey plus) s (makeCurrent { kv := max (-v) (min v (old.kv + step)), kh := old.kh } s) ∧
      Effects (.hKey plus) s (makeCurrent { kv := old.kv, kh := max (-h) (min h (old.kh + step)) } s))) ∧
  (∀ (plus : Bool) (s : State), s.released = true →
    s.store.settings.keypadAuthority < 2 ∨ s.store.settings.keypadAuthority ≤ s.level →
    exec (.vKey plus) s = .next (s.withRefusedTimer (some (s.now + 1000))) ∧
    exec (.hKey plus) s = .next (s.withRefusedTimer (some (s.now + 1000)))) ∧
  (∀ s : State, s.released = true → s.lamp.state = .dark ∨ s.lamp.state = .cooldown →
    s.barred = true ∨ s.store.settings.keypadAuthority ≤ s.level →
    exec .powerKey s = .next (s.withRefusedTimer (some (s.now + 1000)))) ∧
  (∀ s : State, s.released = true → s.store.settings.keypadAuthority ≤ s.level →
    (lampOn s.lamp.state = true → exec .powerKey s = .next (s.withRefusedTimer (some (s.now + 1000)))) ∧
    exec .blankKey s = .next (s.withRefusedTimer (some (s.now + 1000))) ∧
    (s.router.nextSource ≠ none → exec .sourceKey s = .next (s.withRefusedTimer (some (s.now + 1000))))) ∧
  (∀ (due : Nat) (s : State), s.released = true → s.refusedTimer = some due → due ≤ s.now →
    exec .refusedTimeout s = .next (s.withRefusedTimer none)) ∧
  (∀ s : State, (∀ due, s.refusedTimer = some due → s.now < due) → exec .refusedTimeout s = .next s) ∧
  (∀ s : State,
    s.indicator =
      if s.refusedTimer ≠ none then .refused else if s.line.state = .clash then .clash else .blank)

/-! ## Lamp and wear -/

/-- PREHEAT_TIMER and GAP_RUNS_OUT without the lamp-on sense (R52): an ignite attempt of 2 s begins. With the sense
present the attempt succeeds at that moment, as IGNITION in IGNITE would. WARMUP_TIMER (R55): the lamp enters LIT,
which has no timer. COOLDOWN_TIMER (R58): with a held strike and no bar a strike of its cause begins; otherwise the
lamp enters DARK and any held strike is cleared. The ballast and fan commands standing in each lamp state (R49). -/
def Obligations.StageTimersAndCooldownsEnd : Prop :=
  (∀ s : State, s.released = true → s.lamp.sense = false → s.lamp.state = .preheat →
    Effects .preheatTimer s
      (s.withLamp { s.lamp with state := .ignite, timer := some (s.now + 2000), inGap := false })) ∧
  (∀ s : State, s.released = true → s.lamp.sense = false → s.lamp.state = .ignite → s.lamp.inGap = true →
    Effects .gapRunsOut s (s.withLamp { s.lamp with timer := some (s.now + 2000), inGap := false })) ∧
  (∀ s : State, s.released = true → s.lamp.sense = true → s.lamp.state = .preheat →
    Effects .preheatTimer s
      (ignite (s.withLamp { s.lamp with state := .ignite, timer := some (s.now + 2000), inGap := false }))) ∧
  (∀ s : State, s.released = true → s.lamp.sense = true → s.lamp.state = .ignite → s.lamp.inGap = true →
    Effects .gapRunsOut s (ignite (s.withLamp { s.lamp with timer := some (s.now + 2000), inGap := false }))) ∧
  (∀ s : State, s.released = true → s.lamp.state = .warmup →
    Effects .warmupTimer s (s.withLamp { s.lamp with state := .lit, timer := none })) ∧
  (∀ s : State, s.released = true → s.lamp.state = .cooldown → s.lamp.timer ≠ none →
     (∀ cause, s.lamp.heldStrike = some cause → s.barred = false →
       Effects .cooldownTimer s
         (s.withLamp
           { s.lamp with
             state := .preheat
             timer := some (s.now + s.store.settings.preheat * 1000)
             inGap := false
             attempts := 0
             heldStrike := none
             cause := cause })) ∧
     (s.lamp.heldStrike = none ∨ s.barred = true →
       Effects .cooldownTimer s (s.withLamp { s.lamp with state := .dark, timer := none, heldStrike := none }))) ∧
  (∀ s : State,
    (s.ballast, s.fans) =
      (match s.lamp.state with
        | .dark => (.off, .off)
        | .preheat => (.heat, .high)
        | .ignite => (if s.lamp.inGap = true then .heat else .ignitePulse, .high)
        | .warmup => (.run .normal, if s.hot = true then .high else .low)
        | .lit => (.run s.served, if s.hot = true then .high else .low)
        | .cooldown => (.off, .high)))

/-- ATTEMPT_RUNS_OUT (R54, R73, R81): the wear rises by 60, residue and strikes standing; after the first and second
attempt a gap of 3 s begins; after the third IGNITION FAILED is latched with detail 3 and the lamp enters COOLDOWN,
no extinction; when the charge expires the lamp it enters COOLDOWN at once, and IGNITION FAILED is not latched, be
it the third attempt (the model's reading, log 10). IGNITION in IGNITE (R53, R80): the lamp enters WARMUP with its
timer at W and attempt count 0; the wear rises by 300 from 1800 seconds since extinction on, and by 900 below that
and when unknown; strikes rise by one; the residue stands. A charge that expires the lamp takes it into COOLDOWN. In
any other state the sense is only held (R52). LIFE LOW (R76, R83): judged at a lamp second or a charge; while the
life limit less E is below the margin it is latched with the remaining whole hours, and nothing happens otherwise.
The life state (R82, R76), where a margin equal to the life limit gives LIFE LOW at E = 0 (log 27). -/
def Obligations.AttemptsAndIgnitionAreCharged : Prop :=
  (∀ s : State, s.released = true → s.lamp.state = .ignite → s.lamp.inGap = false →
     let charged := s.withWear
       { s.wear with
         record := { s.wear.record with equivalent := min (s.wear.record.equivalent + 60) 4294967295 } }
     (charged.life ≠ .expired → s.lamp.attempts < 2 →
       Effects .attemptRunsOut s
         (judgeLifeLow
           (charged.withLamp
             { s.lamp with
               attempts := s.lamp.attempts + 1, inGap := true, timer := some (s.now + 3000) }))) ∧
     (charged.life ≠ .expired → 2 ≤ s.lamp.attempts →
       Effects .attemptRunsOut s
         (enterCooldown
           (latch .ignitionFailed 3
             (judgeLifeLow (charged.withLamp { s.lamp with attempts := s.lamp.attempts + 1 }))))) ∧
     (charged.life = .expired →
       Effects .attemptRunsOut s
         (judgeLifeLow (enterCooldown (charged.withLamp { s.lamp with attempts := s.lamp.attempts + 1 }))))) ∧
  (∀ s : State, s.released = true → s.lamp.state = .ignite →
    let charge := match s.wear.sinceExtinction with
      | some n => if 1800 ≤ n then 300 else 900
      | none => 900
    let lit := (s.withLamp
        { s.lamp with
          state := .warmup, timer := some (s.now + s.store.settings.warmup * 1000), inGap := false, attempts := 0,
          sense := true }).withWear
      { s.wear with
        record := { s.wear.record with
          equivalent := min (s.wear.record.equivalent + charge) 4294967295
          strikes := min (s.wear.record.strikes + 1) 4294967295 } }
    (lit.life ≠ .expired → Effects .ignition s (judgeLifeLow lit)) ∧
    (lit.life = .expired → Effects .ignition s (judgeLifeLow (enterCooldown lit)))) ∧
  (∀ s : State, s.released = true → s.lamp.state ≠ .ignite →
    exec .ignition s = .next (s.withLamp { s.lamp with sense := true })) ∧
  (∀ s : State,
     (s.store.settings.ratedHours * 3600 < s.wear.record.equivalent + s.store.settings.marginHours * 3600 →
       judgeLifeLow s =
         latch .lifeLow ((s.store.settings.ratedHours * 3600 - s.wear.record.equivalent) / 3600) s) ∧
     (s.wear.record.equivalent + s.store.settings.marginHours * 3600 ≤ s.store.settings.ratedHours * 3600 →
       judgeLifeLow s = s)) ∧
  (∀ s : State,
    let life := s.store.settings.ratedHours * 3600
    let expiry := (s.store.settings.ratedHours + s.store.settings.overrunHours) * 3600
    let margin := s.store.settings.marginHours * 3600
    let e := s.wear.record.equivalent
    (s.life = .expired ↔ expiry ≤ e) ∧
    (s.life = .lifeOut ↔ life ≤ e ∧ e < expiry) ∧
    (s.life = .lifeLow ↔ e < life ∧ e < expiry ∧ (life ≤ margin ∨ life < e + margin)) ∧
    (s.life = .noLife ↔ margin < life ∧ e + margin ≤ life ∧ e < life ∧ e < expiry))

/-- DROPOUT in WARMUP or LIT (R56): LAMP OUT is latched with the lamp state's code, 3 or 4, and the lamp enters
COOLDOWN, an extinction. In any other state the loss is only held (R52, R56). A housing sample of 95 °C or more
(R70) in a tick of a lamp that is no longer tripped: THERMAL TRIP is latched with the sample, a lamp that is on
enters COOLDOWN, and in COOLDOWN the held strike is cleared. A trip already latched changes nothing. -/
def Obligations.DropoutAndTripRestTheLamp : Prop :=
  (∀ s : State, s.released = true →
     let lost := s.withLamp { s.lamp with sense := false }
     (s.lamp.state = .warmup → Effects .dropout s (enterCooldown (latch .lampOut 3 lost))) ∧
     (s.lamp.state = .lit → Effects .dropout s (enterCooldown (latch .lampOut 4 lost))) ∧
     (lampBurning s.lamp.state = false → exec .dropout s = .next lost)) ∧
  (∀ (sample : Int) (s : State),
     (s.latched .thermalTrip = true → thermalTrip sample s = s) ∧
     (s.latched .thermalTrip = false →
       (lampOn s.lamp.state = true →
         thermalTrip sample s = enterCooldown (latch .thermalTrip sample.toNat s)) ∧
       (s.lamp.state = .cooldown →
         thermalTrip sample s =
           (latch .thermalTrip sample.toNat s).withLamp { s.lamp with heldStrike := none }) ∧
       (s.lamp.state = .dark → thermalTrip sample s = latch .thermalTrip sample.toNat s)) ∧
     (95 ≤ sample → takeSample sample s = thermalTrip sample (s.withLamp { s.lamp with housing := some sample })) ∧
     (sample < 95 → takeSample sample s = s.withLamp { s.lamp with housing := some sample }))

/-- ONE_SECOND_TICK (R69, R70, R72, R73, R77 to R79, R83, R137, R143), in the manual's sequence. The count since
extinction rises by one, in every lamp state. In WARMUP and LIT the second is weighed, in sixteenths, 16 for WARMUP
and for LIT at NORMAL, 9 at ECO and 22 at FULL, plus 4 if the housing was hot, and added to residue and E; at each
whole multiple of 360 lit seconds the wear record is marked; a wear that has expired takes the lamp into COOLDOWN,
and LIFE LOW is judged. The sample replaces the one held, and from 95 °C on trips the lamp. The clock advances, and
so does the count towards the minute tick, which every sixtieth makes due. What follows the event follows. The
model's choices (log 6): a boundary and a minute tick fallen due are taken by their own commands, and what stands
after the tick, before a MINUTE_BOUNDARY, is kept for the next second. -/
def Obligations.TickCountsTheSecond : Prop :=
  ∀ (sample : Int) (s : State), s.released = true →
    let weight :=
      (if s.lamp.tickLamp = .lit then (match s.lamp.tickMode with | .eco => 9 | .normal => 16 | .full => 22) else 16) +
        (if s.lamp.tickHot then 4 else 0)
    let r := s.wear.record
    let burning := s.lamp.state = .warmup ∨ s.lamp.state = .lit
    let aged := s.withWear
      { s.wear with sinceExtinction := s.wear.sinceExtinction.map fun n => min (n + 1) 4294967295 }
    let weighed := aged.withWear
      { aged.wear with
        record :=
          { r with
            equivalent := min (r.equivalent + (r.residue + weight) / 16) 4294967295
            residue := (r.residue + weight) % 16
            litSeconds := min (r.litSeconds + 1) 4294967295 } }
    let marked := if r.litSeconds < 4294967295 ∧ (r.litSeconds + 1) % 360 = 0 then mark .wear weighed else weighed
    let seconded := if burning then judgeLifeLow (if weighed.life = .expired then enterCooldown marked else marked) else aged
    let sampled := seconded.withLamp { seconded.lamp with housing := some sample }
    let judged := if 95 ≤ sample then thermalTrip sample sampled else sampled
    let clock :=
      if s.schedule.second < 59 then { s.schedule with second := s.schedule.second + 1 }
      else if s.schedule.minute < 1439 then
        { s.schedule with
          second := 0
          minute := s.schedule.minute + 1
          boundaryDue := if s.schedule.valid then some (s.schedule.day, s.schedule.minute + 1) else none }
      else
        { s.schedule with
          second := 0
          minute := 0
          day := (s.schedule.day + 1) % 7
          boundaryDue := if s.schedule.valid then some ((s.schedule.day + 1) % 7, 0) else none }
    let counted :=
      if 59 ≤ s.lockout.minuteCount then { s.lockout with minuteCount := 0, minuteDue := true }
      else { s.lockout with minuteCount := s.lockout.minuteCount + 1 }
    ∃ v t, Followed s ((judged.withSchedule clock).withLockout counted) v ∧
      t = v.withLamp { v.lamp with tickLamp := v.lamp.state, tickMode := v.served, tickHot := v.hot } ∧
      exec (.oneSecondTick sample) s = .next t ∧
      t.lamp.housing = some sample ∧
      t.wear.record = (if burning then weighed.wear.record else r) ∧
      (s.lamp.state ≠ .warmup → s.lamp.state ≠ .lit → t.wear.sinceExtinction = aged.wear.sinceExtinction) ∧
      t.schedule = clock ∧ t.lockout = counted ∧
      t.lamp.tickLamp = t.lamp.state ∧ t.lamp.tickMode = t.served ∧ t.lamp.tickHot = t.hot ∧
      t.router = s.router ∧ t.geometry = s.geometry ∧ t.refusedTimer = s.refusedTimer ∧ t.now = s.now ∧
      t.peers.table = s.peers.table ∧ t.store.settings = s.store.settings

/-! ## Switcher and warp engine -/

/-- LOCK_REPORT (R99, R100): in SWITCHING, naming the in-flight port, it ends the switch: the switch to a pending
target begins, the switcher commanded afresh; else the port's signal settles the source, or its absence begins the
search. Any other report changes nothing. SWITCH_TIMER (R101) ends a switch without a lock: the switch to a pending
target begins, or the search, on the in-flight port; a SWITCH_TIMER before the 3 s of the switch in flight are over,
or outside SWITCHING, changes nothing (the model's choice, logs 3 and 2). SIGNAL_PRESENCE_REPORT (R102): the view of
the port is replaced; on the port of the current source a loss in SETTLED begins the search and an appearance in
SEARCHING settles the source. A report that repeats the view changes nothing. The input command standing at the
switcher (R97): PARK in NO_SOURCE, SWITCH TO the in-flight port in SWITCHING, SWITCH TO the port of the current
source in SETTLED and SEARCHING. -/
def Obligations.SwitchesEndByReportOrTimer : Prop :=
  (∀ (port : Nat) (s : State), s.released = true →
     (s.router.selection = .switching → s.router.inFlightPort = some port →
       (∀ target e, s.router.pendingTarget = some target → s.router.lookup target = some e →
         Effects (.lockReport port) s
           (s.withRouter
             { s.router with
               current := some target
               pendingTarget := none
               inFlightPort := some e.port
               port := none
               switchTimer := some (s.now + 3000)
               searchTimer := none
               inputCommands := s.router.inputCommands + 1 })) ∧
       (s.router.pendingTarget = none → s.router.signalOn port = true →
         Effects (.lockReport port) s
           (s.withRouter
             { s.router with
               selection := .settled, inFlightPort := none, port := some port, switchTimer := none,
               searchTimer := none })) ∧
       (s.router.pendingTarget = none → s.router.signalOn port = false →
         Effects (.lockReport port) s
           (s.withRouter
             { s.router with
               selection := .searching, inFlightPort := none, port := some port, switchTimer := none,
               searchTimer := some (s.now + 10000) }))) ∧
     (s.router.selection ≠ .switching ∨ s.router.inFlightPort ≠ some port → exec (.lockReport port) s = .next s)) ∧
  (∀ (due : Nat) (s : State), s.released = true → s.router.selection = .switching →
     s.router.switchTimer = some due → due ≤ s.now →
     (∀ target e, s.router.pendingTarget = some target → s.router.lookup target = some e →
       Effects .switchTimer s
         (s.withRouter
           { s.router with
             current := some target
             pendingTarget := none
             inFlightPort := some e.port
             port := none
             switchTimer := some (s.now + 3000)
             searchTimer := none
             inputCommands := s.router.inputCommands + 1 })) ∧
     (s.router.pendingTarget = none →
       Effects .switchTimer s
         (s.withRouter
           { s.router with
             selection := .searching
             inFlightPort := none
             port := s.router.inFlightPort
             switchTimer := none
             searchTimer := some (s.now + 10000) }))) ∧
  (∀ s : State, s.router.selection ≠ .switching ∨ (∀ due, s.router.switchTimer = some due → s.now < due) →
     exec .switchTimer s = .next s) ∧
  (∀ (port : Fin 6) (present : Bool) (s : State), s.released = true →
     let p := port.val + 1
     let signal := s.router.signal.set port present
     (s.router.signal[port] = present → exec (.signalPresenceReport p present) s = .next s) ∧
     (s.router.signal[port] ≠ present →
       (s.router.port = some p → s.router.selection = .settled → present = false →
         Effects (.signalPresenceReport p present) s
           (s.withRouter
             { s.router with
               signal := signal
               selection := .searching
               inFlightPort := none
               switchTimer := none
               searchTimer := some (s.now + 10000) })) ∧
       (s.router.port = some p → s.router.selection = .searching → present = true →
         Effects (.signalPresenceReport p present) s
           (s.withRouter
             { s.router with
               signal := signal, selection := .settled, inFlightPort := none, switchTimer := none,
               searchTimer := none })) ∧
       (s.router.port ≠ some p ∨ (s.router.selection = .settled ∧ present = true) ∨
           (s.router.selection = .searching ∧ present = false) ∨ s.router.selection = .switching ∨
           s.router.selection = .noSource →
         Effects (.signalPresenceReport p present) s (s.withRouter { s.router with signal := signal })))) ∧
  (∀ s : State,
    (s.router.selection = .noSource → s.switcherInput = .park) ∧
    (∀ p, s.router.selection = .switching → s.router.inFlightPort = some p → s.switcherInput = .switchTo p) ∧
    (∀ p, s.router.selection = .settled ∨ s.router.selection = .searching → s.router.port = some p →
      s.switcherInput = .switchTo p))

/-- SEARCH_TIMER in SEARCHING (R103): NO SIGNAL is latched with the current source and its port; the first entry of
at most three hops of the fallback chain whose port has signal is switched to, without a CUE; where the chain ends
at its first, second or third hop, because no fallback is named or its number has no entry, or finds no signal in
three hops, the search timer starts again. A SEARCH_TIMER before the 10 s are over, or outside SEARCHING, changes
nothing (the model's choice, logs 3 and 2). -/
def Obligations.SearchTimerTriesTheFallbacks : Prop :=
  (∀ s : State, s.router.selection ≠ .searching ∨ (∀ due, s.router.searchTimer = some due → s.now < due) →
    exec .searchTimer s = .next s) ∧
  ∀ (n e1 : AliasEntry) (source port due : Nat) (s : State), s.released = true → s.router.selection = .searching →
    s.router.searchTimer = some due → due ≤ s.now → s.router.current = some source → s.router.port = some port → s.router.lookup source = some n →
    let latched := latch .noSignal (source * 256 + port) s
    let switched (m p : Nat) := latched.withRouter
      { s.router with
        selection := .switching
        current := some m
        pendingTarget := none
        inFlightPort := some p
        port := none
        switchTimer := some (s.now + 3000)
        searchTimer := none
        inputCommands := s.router.inputCommands + 1 }
    let stays := latched.withRouter { s.router with searchTimer := some (s.now + 10000) }
    (n.fallback = none → Effects .searchTimer s stays) ∧
    (∀ f1, n.fallback = some f1 → s.router.lookup f1 = none → Effects .searchTimer s stays) ∧
    (∀ f1, n.fallback = some f1 → s.router.lookup f1 = some e1 → s.router.signalOn e1.port = true →
      Effects .searchTimer s (switched f1 e1.port)) ∧
    (∀ f1 f2 e2, n.fallback = some f1 → s.router.lookup f1 = some e1 → s.router.signalOn e1.port = false →
      e1.fallback = some f2 → s.router.lookup f2 = some e2 → s.router.signalOn e2.port = true →
      Effects .searchTimer s (switched f2 e2.port)) ∧
    (∀ f1, n.fallback = some f1 → s.router.lookup f1 = some e1 → s.router.signalOn e1.port = false →
      (e1.fallback = none ∨ ∃ f2, e1.fallback = some f2 ∧ s.router.lookup f2 = none) →
      Effects .searchTimer s stays) ∧
    (∀ f1 f2 e2, n.fallback = some f1 → s.router.lookup f1 = some e1 → s.router.signalOn e1.port = false →
      e1.fallback = some f2 → s.router.lookup f2 = some e2 → s.router.signalOn e2.port = false →
      (e2.fallback = none ∨ ∃ f3, e2.fallback = some f3 ∧ s.router.lookup f3 = none) →
      Effects .searchTimer s stays) ∧
    (∀ f1 f2 f3 e2 e3, n.fallback = some f1 → s.router.lookup f1 = some e1 → s.router.signalOn e1.port = false →
      e1.fallback = some f2 → s.router.lookup f2 = some e2 → s.router.signalOn e2.port = false →
      e2.fallback = some f3 → s.router.lookup f3 = some e3 →
      Effects .searchTimer s (if s.router.signalOn e3.port then switched f3 e3.port else stays))

/-- APPLIED and HANDOFF_TIMER (R119 to R122): a report of the number in flight, or a second silence, ends the
handoff: a pending set is sent with the next number, or the handoff is IDLE. A first silence sends the set again
with its number; a second latches GEOMETRY FAULT with the set's pair. A report of another number changes nothing,
nor does any report while the handoff is IDLE (R120), nor a HANDOFF_TIMER while it is IDLE or before
the 200 ms of the last send are over (the model's choice, logs 2 and 3). -/
def Obligations.HandoffEndsOrRepeats : Prop :=
  (∀ (number : Byte) (s : State), s.geometry.inFlight = none →
    exec (.applied number) s = .next s ∧ exec .handoffTimer s = .next s) ∧
  ∀ (number : Byte) (f : FlightSet) (s : State), s.released = true → s.geometry.inFlight = some f →
    let ended (g : Geometry) : Geometry :=
      match g.pendingSet with
      | some c =>
        { g with
          inFlight := some { number := (g.lastNumber + 1) % 256, corners := c, sends := 1 }
          timer := some (s.now + 200)
          lastNumber := (g.lastNumber + 1) % 256
          pendingSet := none }
      | none => { g with inFlight := none, timer := none }
    (f.number = number.toNat → exec (.applied number) s = .next (s.withGeometry (ended s.geometry))) ∧
    (f.number ≠ number.toNat → exec (.applied number) s = .next s) ∧
    (∀ due, s.geometry.timer = some due → due ≤ s.now → f.sends = 1 →
      exec .handoffTimer s =
        .next
          (s.withGeometry
            { s.geometry with inFlight := some { f with sends := 2 }, timer := some (s.now + 200) })) ∧
    ((∀ due, s.geometry.timer = some due → s.now < due) → exec .handoffTimer s = .next s) ∧
    (∀ due, s.geometry.timer = some due → due ≤ s.now → f.sends ≠ 1 →
      Effects .handoffTimer s
        ((latch .geometryFault
            (numberOf [signedByteOf f.corners.pair.kv, signedByteOf f.corners.pair.kh]) s).withGeometry
          (ended s.geometry)))

/-! ## Shared Duty -/

/-- The ranking of R165: on before dark, then the greater wear key, then the lower address. Among candidates of
distinct addresses it is total, and it is a strict order. One evaluation (R160, R164 to R167). The offer is the
entry group when every condition of R160 holds, and none otherwise. With k candidates lit by an order or a key, the
slots are the demand less k; the station, not one of them, is ON when fewer than that many uncounted candidates are
ranked before it. -/
def Obligations.DutyIsRankedAndDecided : Prop :=
  (∀ a b : Candidate, lampOn a.lamp = true → lampOn b.lamp = false → rankedBefore a b = true) ∧
  (∀ a b : Candidate, lampOn a.lamp = lampOn b.lamp → b.wearKey < a.wearKey → rankedBefore a b = true) ∧
  (∀ a b : Candidate, lampOn a.lamp = lampOn b.lamp → a.wearKey = b.wearKey → a.address < b.address →
    rankedBefore a b = true) ∧
  (∀ a b : Candidate, a.address ≠ b.address → (rankedBefore a b = true ↔ rankedBefore b a = false)) ∧
  (∀ a b c : Candidate, rankedBefore a b = true → rankedBefore b c = true → rankedBefore a c = true) ∧
  (∀ a : Candidate, rankedBefore a a = false) ∧
  (∀ s : State,
     let t := deriveOffer s
     (∀ g, t.duty.offer = some g ↔
       s.line.state = .active ∧ s.duty.entryGroup = some g ∧ s.latched .ignitionFailed = false ∧
         s.latched .thermalTrip = false ∧ s.latched .lampOut = false ∧ s.life ≠ .lifeOut ∧ s.life ≠ .expired ∧
         s.duty.declined = false ∧ s.lamp.state ≠ .cooldown) ∧
     (∀ g, t.duty.offer = some g →
       let own := s.ownCandidate
       let peers := ((s.peers.table.toList.filterMap id).filter fun r => r.beacon.offer == some g).map peerCandidate
       let k := ((own :: peers).filter fun c => c.cause == .order || c.cause == .key).length
       let ahead := peers.filter fun c => !(c.cause == .order || c.cause == .key) && rankedBefore c own
       (t.decision = .counted ↔ s.lamp.cause = .order ∨ s.lamp.cause = .key) ∧
       (t.decision = .on ↔
         s.lamp.cause ≠ .order ∧ s.lamp.cause ≠ .key ∧ ahead.length < s.duty.entryDemand.getD 0 - k)) ∧
     (t.duty.offer = none → t.decision = .noDuty))

/-- STRIKE_HOLDOFF at the holdoff's moment or after it (R167, R168): the holdoff stops; a station still decided ON
with its lamp DARK and no bar is struck by schedule whatever the dark rank; one no longer ON is not struck, and
nothing else happens. Before that moment, as when another event taken first has started the holdoff afresh (R168),
and without a holdoff, it changes nothing (the model's choice, logs 3 and 2). An evaluation (R166, R66, R167): an ON
decision with the lamp DARK and d dark candidates ranked ahead strikes at once for d = 0, and else runs the holdoff
of d seconds, a running one of that length running on; ON with the lamp not DARK, and COUNTED, stop the holdoff; OFF
and NONE stop it and release a lamp lit by the schedule into COOLDOWN, whereupon the offer is none. -/
def Obligations.HoldoffSpacesTheStrikes : Prop :=
  (∀ (h : Holdoff) (s : State), s.released = true → s.duty.holdoff = some h → h.due ≤ s.now →
    s.lamp.state = .dark → s.barred = false → (deriveOffer s).decision = .on →
    ∃ t, exec .strikeHoldoff s = .next t ∧ t.duty.holdoff = none ∧
      t.lamp =
        { s.lamp with
          state := .preheat
          timer := some (s.now + s.store.settings.preheat * 1000)
          inGap := false
          attempts := 0
          heldStrike := none
          cause := .schedule } ∧
      t.wear = s.wear ∧ t.router = s.router ∧ t.store = s.store ∧ t.conditions = s.conditions) ∧
  (∀ (h : Holdoff) (s : State), s.released = true → s.duty.holdoff = some h → h.due ≤ s.now →
    s.lamp.state = .dark → (deriveOffer s).decision ≠ .on →
    Effects .strikeHoldoff s (s.withDuty { s.duty with offer := s.offerNow, holdoff := none })) ∧
  (∀ s : State, (∀ h, s.duty.holdoff = some h → s.now < h.due) → exec .strikeHoldoff s = .next s) ∧
  (∀ (g : Nat) (s : State), s.lamp.state = .dark → s.barred = false → (deriveOffer s).decision = .on →
    s.offerNow = some g →
    let d :=
      (((s.peers.table.toList.filterMap id).filter fun r => r.beacon.offer == some g).map peerCandidate).countP
        fun c => !(c.cause == .order || c.cause == .key) && !lampOn c.lamp && rankedBefore c s.ownCandidate
    (d = 0 → (evaluate s).lamp.state = .preheat ∧ (evaluate s).lamp.cause = .schedule ∧
      (evaluate s).duty.holdoff = none) ∧
    (d ≠ 0 → (evaluate s).lamp = s.lamp ∧
      (evaluate s).duty.holdoff =
        (match s.duty.holdoff with
          | some h => if h.length = d then some h else some { length := d, due := s.now + d * 1000 }
          | none => some { length := d, due := s.now + d * 1000 }))) ∧
  (∀ s : State, (deriveOffer s).decision = .off ∨ (deriveOffer s).decision = .noDuty → lampOn s.lamp.state = true →
    s.lamp.cause = .schedule →
    evaluate s = (enterCooldown s).withDuty { s.duty with offer := none, holdoff := none }) ∧
  (∀ s : State,
    ((deriveOffer s).decision = .on ∧ s.lamp.state ≠ .dark) ∨ (deriveOffer s).decision = .counted ∨
      (((deriveOffer s).decision = .off ∨ (deriveOffer s).decision = .noDuty) ∧
        (lampOn s.lamp.state = false ∨ s.lamp.cause ≠ .schedule)) →
    evaluate s = s.withDuty { s.duty with offer := s.offerNow, holdoff := none })

/-! ## The Store -/

/-- READ_ANSWERED and READ_TIMEOUT before the last record of a load (R177, R180): the load goes on to the next
record with its 50 ms; a record whose check byte passes is taken by its owner's rules; one that fails, or is not
answered within the 50 ms, keeps its default, latches STORE FAULT with its kind and number and is marked. The
owners' rules: a settings record, an alias position or a schedule slot out of its form or ranges fails (R181, R113,
R151), and so does an alias position that repeats a number of a lower one (R113); a wear record of a wrong form
fails, and one whose E the settings place 900 or more beyond the expiry limit is taken with E at that limit, and
marked (R89); a geometry record out of its form or limits fails as a whole (R127). What is read is within the
ranges. The records read wait in `staged` (the model's choice, log 9), whose keystone and presets are the defaults
(R127) until the geometry record is read. The load completes with the geometry record, whether it passes, fails or
is not answered in time (R74, R89, R128, R180, R181): the records staged come into effect; a lamp in COOLDOWN, as
every lamp is at a load, starts its timer at the C of the settings now in effect, its seconds since extinction
unknown; LIFE LOW is latched when the wear taken is within the margin; and the first corner set, computed from the
keystone now current, is sent with the next handoff number, no handoff being in flight. A READ_TIMEOUT before the 50
ms of its READ are over changes nothing (the model's choice, log 3). -/
def Obligations.LoadTakesTheRecordsInTurn : Prop :=
  (∀ (r : RecordId) (s : State), s.released = true → s.store.loadIndex < 50 → loadSequence[s.store.loadIndex]? = some r →
     let next (u : State) : State :=
       u.withStore { u.store with loadIndex := s.store.loadIndex + 1, readTimer := some (s.now + 50) }
     let failed := next (mark r (latch .storeFault (recordKind r * 256 + recordNumber r) s))
     let staged (x : Staged) : State := s.withStore { s.store with staged := x }
     let expiry := (s.store.staged.settings.ratedHours + s.store.staged.settings.overrunHours) * 3600
     (∀ due, s.store.readTimer = some due → due ≤ s.now → Effects .readTimeout s failed) ∧
     (∀ bytes, (checkedContent bytes = none ∨ ∃ due, s.store.readTimer = some due ∧ due < s.now) →
       Effects (.readAnswered bytes) s failed) ∧
     (∀ content, (∀ due, s.store.readTimer = some due → s.now ≤ due) →
       (r = .settings → parseSettings content = none → Effects (.readAnswered (withCheck content)) s failed) ∧
       (∀ x, r = .settings → parseSettings content = some x →
         Effects (.readAnswered (withCheck content)) s (next (staged { s.store.staged with settings := x }))) ∧
       (r = .wear → parseWear content = none → Effects (.readAnswered (withCheck content)) s failed) ∧
       (∀ w, r = .wear → parseWear content = some w →
         (w.equivalent < expiry + 900 →
           Effects (.readAnswered (withCheck content)) s (next (staged { s.store.staged with wear := w }))) ∧
         (expiry + 900 ≤ w.equivalent →
           Effects (.readAnswered (withCheck content)) s
             (next (mark .wear (staged { s.store.staged with wear := { w with equivalent := expiry } }))))) ∧
       (∀ i, r = .aliasAt i → parseAlias content = none → Effects (.readAnswered (withCheck content)) s failed) ∧
       (∀ i, r = .aliasAt i → parseAlias content = some none →
         Effects (.readAnswered (withCheck content)) s (next s)) ∧
       (∀ i e, r = .aliasAt i → parseAlias content = some (some e) →
         ((∃ a, some a ∈ s.store.staged.table.toList ∧ a.source = e.source) →
           Effects (.readAnswered (withCheck content)) s failed) ∧
         ((∀ a, some a ∈ s.store.staged.table.toList → a.source ≠ e.source) →
           Effects (.readAnswered (withCheck content)) s
             (next (staged { s.store.staged with table := s.store.staged.table.set i (some e) })))) ∧
       (∀ i, r = .entryAt i → parseSlot content = none → Effects (.readAnswered (withCheck content)) s failed) ∧
       (∀ i e, r = .entryAt i → parseSlot content = some e →
         Effects (.readAnswered (withCheck content)) s
           (next (staged { s.store.staged with entries := s.store.staged.entries.set i e }))))) ∧
  (∀ content : List Byte,
     (∀ x, parseSettings content = some x → content.length = 19 ∧ x.ok = true) ∧
     (∀ w, parseWear content = some w → w.residue ≤ 15 ∧ w.label.length ≤ 8 ∧ w.label.all printable = true) ∧
     (∀ e, parseAlias content = some (some e) → e.ok = true) ∧
     (∀ e, parseSlot content = some (some e) → e.ok = true) ∧
     (∀ k presets, parseGeometry content = some (k, presets) →
       k.ok = true ∧ ∀ p, some p ∈ presets.toList → p.ok = true)) ∧
  (∀ s : State, (∀ due, s.store.readTimer = some due → s.now < due) → exec .readTimeout s = .next s) ∧
  (∀ (content : List Byte) (due : Nat) (s : State), s.store.loadIndex = 50 → s.store.readTimer = some due →
     due ≤ s.now → parseGeometry content = none →
     exec (.readAnswered (withCheck content)) s = exec .readTimeout s) ∧
  (∀ (k : Keystone) (presets : Vector (Option Keystone) 4) (s : State), s.released = true →
     s.store.loadIndex = 50 → s.geometry.inFlight = none →
     let x := s.store.staged
     let completed (t : State) : Prop :=
       t.store.settings = x.settings ∧ t.store.toStore = x.settings ∧ t.store.loadIndex = 51 ∧
       t.store.readTimer = none ∧ t.wear.record = x.wear ∧ t.router.table = x.table ∧
       t.schedule.table = x.entries ∧
       (s.lamp.state = .cooldown →
         t.lamp.state = .cooldown ∧ t.lamp.timer = some (s.now + x.settings.cooldown * 1000) ∧
           t.wear.sinceExtinction = none) ∧
       (t.conditions.getLsbD 3 = true ↔
         s.conditions.getLsbD 3 = true ∨
           x.settings.ratedHours * 3600 < x.wear.equivalent + x.settings.marginHours * 3600) ∧
       t.geometry.lastNumber = (s.geometry.lastNumber + 1) % 256
     let sent (k : Keystone) (t : State) : Prop :=
       t.geometry.current = k ∧ t.geometry.timer = some (s.now + 200) ∧
       t.geometry.inFlight =
         some
           { number := (s.geometry.lastNumber + 1) % 256
             corners := cornersOf x.settings.rasterWidth x.settings.rasterHeight k
             sends := 1 }
     (∀ c : Instr,
       (c = .readTimeout ∧ ∃ due, s.store.readTimer = some due ∧ due ≤ s.now) ∨
         (∃ bytes, c = .readAnswered bytes ∧
           ((∃ due, s.store.readTimer = some due ∧ due < s.now) ∨
             ∀ content, checkedContent bytes = some content → parseGeometry content = none)) →
       ∃ t, exec c s = .next t ∧ completed t ∧ sent x.keystone t ∧ t.geometry.presets = x.presets ∧
         t.store.inFlight ≠ none ∧ t.conditions.getLsbD 8 = true) ∧
     (∀ content, (∀ due, s.store.readTimer = some due → s.now ≤ due) → parseGeometry content = some (k, presets) →
       ∃ t, exec (.readAnswered (withCheck content)) s = .next t ∧ completed t ∧ sent k t ∧
         t.geometry.presets = presets ∧ t.conditions.getLsbD 8 = s.conditions.getLsbD 8))

/-- A mark (R178) places a record at the back of the write-back list, or leaves it where it waits. A write begins
with the head of the list, when none is in flight and the load has completed: it leaves the list and is written with
the contents and check byte of that moment; otherwise nothing happens. WRITE_CONFIRMED and WRITE_TIMEOUT (R178,
R179): the write in flight ends and its retry flag is cleared, or, on a first failure, set, and the record marked
again; a failure latches STORE FAULT; the next write begins. A confirmation after the 50 ms is ignored (R179). The
model's choices (logs 17 and 2): the command says whether the confirmation is a late one, of a WRITE whose 50 ms
were over before it came, and a late one changes nothing, whatever write is in flight by then; neither command
changes anything with no write in flight; and a WRITE_TIMEOUT before the 50 ms are over changes nothing (log 3). -/
def Obligations.WritesFollowTheList : Prop :=
  (∀ (r : RecordId) (s : State),
    mark r s =
      if r ∈ s.store.list then s else s.withStore { s.store with list := s.store.list ++ [r] }) ∧
  (∀ s : State,
    (∀ r rest, s.store.inFlight = none → 51 ≤ s.store.loadIndex → s.store.list = r :: rest →
      beginWrite s =
        s.withStore
          { s.store with
            list := rest
            inFlight := some
              { record := r, bytes := withCheck (recordContent s r), due := s.now + 50 } }) ∧
    (s.store.inFlight ≠ none ∨ s.store.loadIndex < 51 ∨ s.store.list = [] → beginWrite s = s)) ∧
  (∀ (w : WriteInFlight) (s : State), s.released = true → s.store.inFlight = some w →
    let cleared := s.store.retry.filter fun x => x != w.record
    let fault := latch .storeFault ((recordKind w.record + 128) * 256 + recordNumber w.record) s
    (s.now ≤ w.due →
      Effects (.writeConfirmed false) s
        (beginWrite (s.withStore { s.store with inFlight := none, retry := cleared }))) ∧
    (w.due < s.now → exec (.writeConfirmed false) s = .next s) ∧
    (s.now < w.due → exec .writeTimeout s = .next s) ∧
    (w.due ≤ s.now → w.record ∉ s.store.retry →
      Effects .writeTimeout s
        (beginWrite
          (mark w.record (fault.withStore { s.store with inFlight := none, retry := w.record :: s.store.retry })))) ∧
    (w.due ≤ s.now → w.record ∈ s.store.retry →
      Effects .writeTimeout s
        (beginWrite (fault.withStore { s.store with inFlight := none, retry := cleared })))) ∧
  (∀ s : State, exec (.writeConfirmed true) s = .next s) ∧
  (∀ s : State, s.store.inFlight = none →
    exec (.writeConfirmed false) s = .next s ∧ exec .writeTimeout s = .next s)

/-! ## Encodings -/

/-- Every record the part stores survives its bytes (R177, R181, R89, R113, R151, R127): the content of each record
whose fields lie in their ranges reads back as it was written, its check byte passing. -/
def Obligations.StoredRecordsRoundTrip : Prop :=
  (∀ content : List Byte, checkedContent (withCheck content) = some content) ∧
  (∀ x : Settings, x.ok = true → (settingsBytes x).length = 19 ∧ parseSettings (settingsBytes x) = some x) ∧
  (∀ w : WearRecord, w.equivalent ≤ Config.counterMax → w.residue ≤ 15 → w.litSeconds ≤ Config.counterMax →
    w.strikes ≤ Config.counterMax → w.label.length ≤ 8 → w.label.all printable = true →
    parseWear (wearContent w) = some w) ∧
  (∀ e : Option AliasEntry, (∀ a, e = some a → a.ok = true) → parseAlias (aliasContent e) = some e) ∧
  (∀ e : Option Entry, (∀ a, e = some a → a.ok = true) → parseSlot (slotContent e) = some e) ∧
  (∀ (k : Keystone) (presets : Vector (Option Keystone) 4), k.ok = true →
    (∀ p, some p ∈ presets.toList → p.ok = true) →
    parseGeometry (geometryContent k presets) = some (k, presets))

/-! ## Invariants -/

/-- The laws of the transmit queue and the failure log (R6, R8, R9, R12, R16, R17) are kept by every step. -/
def Obligations.LineLawsAreKept : Prop :=
  ∀ s t : State, QueueLaw s.line → LogLaw s → step s = .next t → QueueLaw t.line ∧ LogLaw t

/-- The law of the lock stack (R130): at most 4 entries whose levels strictly increase from bottom to top, kept by
every step; and the effective level, which is never stored, is the greater of the top level, 0 when empty, and the
floor. -/
def Obligations.LockStackLawIsKept : Prop :=
  ∀ s t : State, s.lockout.stack.length ≤ 4 → (s.lockout.stack.Pairwise fun a b => a.level < b.level) →
    step s = .next t →
    t.lockout.stack.length ≤ 4 ∧ (t.lockout.stack.Pairwise fun a b => a.level < b.level) ∧
      t.level = max (match t.lockout.stack.getLast? with | some e => e.level | none => 0) t.lockout.floor

/-- The laws of the tables (R26, R93, R114, R130, R148) are kept by every step. -/
def Obligations.TableLawsAreKept : Prop :=
  ∀ s t : State, TableLaw s → step s = .next t → TableLaw t

/-- The laws of lamp and wear (R59, R61, R64, R74, R84) are kept by every step: a bar on strikes means a lamp at
rest, and E stays below the expiry limit plus 900. -/
def Obligations.LampLawsAreKept : Prop :=
  ∀ s t : State, LampLaw s → step s = .next t → LampLaw t

/-- The laws of Shared Duty (R64, R160) and of the Store (R178) are kept by every step: the offer is always the one
the state gives, and a lamp lit by the schedule has a governing entry and is not declined. -/
def Obligations.DutyAndStoreLawsAreKept : Prop :=
  ∀ s t : State, step s = .next t → (DutyLaw s → DutyLaw t) ∧ (StoreLaw s.store → StoreLaw t.store)

/-- After reset every law holds. -/
def Obligations.LawsHoldAtReset : Prop :=
  QueueLaw State.reset.line ∧ LogLaw State.reset ∧ TableLaw State.reset ∧ LampLaw State.reset ∧ DutyLaw State.reset ∧
    StoreLaw State.reset.store ∧ ImageLaw State.reset

/-- The change watch's law (R24, R25) is kept by every step: in ACTIVE the last offered image is the beacon as it
would now be composed, so no change of a watched field goes unoffered. A step that leaves the station ACTIVE with
another beacon than before has offered it: it is the held update, or the payload of the queue's BEACON, or the queue
is full and holds no BEACON (R11, R12). -/
def Obligations.BeaconImageIsCurrent : Prop :=
  ∀ s t : State, ImageLaw s → step s = .next t →
    ImageLaw t ∧
      (s.line.state = .active → t.line.state = .active → t.beaconNow ≠ s.beaconNow →
        t.line.heldUpdate = some t.beaconNow ∨
          (∃ q ∈ t.line.queue, q.isBeacon = true ∧ q.frame.payload = t.beaconNow) ∨
          (8 ≤ t.line.queue.length ∧ ∀ q ∈ t.line.queue, q.isBeacon = false))
end

