-- ==== Sys2Proof/Laws/State.lean ====
section
/-! SUPPORT. What each field of a state reads after one block is replaced. -/

namespace Sys2Proof.Machine

/-! ## withLine -/

@[simp] theorem State.withLine_pending (s : State) (x : Line) : (s.withLine x).pending = s.pending := rfl
@[simp] theorem State.withLine_released (s : State) (x : Line) : (s.withLine x).released = s.released := rfl
@[simp] theorem State.withLine_now (s : State) (x : Line) : (s.withLine x).now = s.now := rfl
@[simp] theorem State.withLine_line (s : State) (x : Line) : (s.withLine x).line = x := rfl
@[simp] theorem State.withLine_peers (s : State) (x : Line) : (s.withLine x).peers = s.peers := rfl
@[simp] theorem State.withLine_refusedTimer (s : State) (x : Line) : (s.withLine x).refusedTimer = s.refusedTimer := rfl
@[simp] theorem State.withLine_lamp (s : State) (x : Line) : (s.withLine x).lamp = s.lamp := rfl
@[simp] theorem State.withLine_wear (s : State) (x : Line) : (s.withLine x).wear = s.wear := rfl
@[simp] theorem State.withLine_router (s : State) (x : Line) : (s.withLine x).router = s.router := rfl
@[simp] theorem State.withLine_geometry (s : State) (x : Line) : (s.withLine x).geometry = s.geometry := rfl
@[simp] theorem State.withLine_lockout (s : State) (x : Line) : (s.withLine x).lockout = s.lockout := rfl
@[simp] theorem State.withLine_schedule (s : State) (x : Line) : (s.withLine x).schedule = s.schedule := rfl
@[simp] theorem State.withLine_duty (s : State) (x : Line) : (s.withLine x).duty = s.duty := rfl
@[simp] theorem State.withLine_conditions (s : State) (x : Line) : (s.withLine x).conditions = s.conditions := rfl
@[simp] theorem State.withLine_store (s : State) (x : Line) : (s.withLine x).store = s.store := rfl

/-- A block put back as it stands changes nothing. -/
@[simp] theorem State.withLine_self (s : State) : s.withLine s.line = s := rfl
/-- The later replacement of a block stands. -/
@[simp] theorem State.withLine_twice (s : State) (x y : Line) : (s.withLine x).withLine y = s.withLine y := rfl

/-! ## withPeers -/

@[simp] theorem State.withPeers_pending (s : State) (x : Peers) : (s.withPeers x).pending = s.pending := rfl
@[simp] theorem State.withPeers_released (s : State) (x : Peers) : (s.withPeers x).released = s.released := rfl
@[simp] theorem State.withPeers_now (s : State) (x : Peers) : (s.withPeers x).now = s.now := rfl
@[simp] theorem State.withPeers_line (s : State) (x : Peers) : (s.withPeers x).line = s.line := rfl
@[simp] theorem State.withPeers_peers (s : State) (x : Peers) : (s.withPeers x).peers = x := rfl
@[simp] theorem State.withPeers_refusedTimer (s : State) (x : Peers) : (s.withPeers x).refusedTimer = s.refusedTimer := rfl
@[simp] theorem State.withPeers_lamp (s : State) (x : Peers) : (s.withPeers x).lamp = s.lamp := rfl
@[simp] theorem State.withPeers_wear (s : State) (x : Peers) : (s.withPeers x).wear = s.wear := rfl
@[simp] theorem State.withPeers_router (s : State) (x : Peers) : (s.withPeers x).router = s.router := rfl
@[simp] theorem State.withPeers_geometry (s : State) (x : Peers) : (s.withPeers x).geometry = s.geometry := rfl
@[simp] theorem State.withPeers_lockout (s : State) (x : Peers) : (s.withPeers x).lockout = s.lockout := rfl
@[simp] theorem State.withPeers_schedule (s : State) (x : Peers) : (s.withPeers x).schedule = s.schedule := rfl
@[simp] theorem State.withPeers_duty (s : State) (x : Peers) : (s.withPeers x).duty = s.duty := rfl
@[simp] theorem State.withPeers_conditions (s : State) (x : Peers) : (s.withPeers x).conditions = s.conditions := rfl
@[simp] theorem State.withPeers_store (s : State) (x : Peers) : (s.withPeers x).store = s.store := rfl

/-- A block put back as it stands changes nothing. -/
@[simp] theorem State.withPeers_self (s : State) : s.withPeers s.peers = s := rfl
/-- The later replacement of a block stands. -/
@[simp] theorem State.withPeers_twice (s : State) (x y : Peers) : (s.withPeers x).withPeers y = s.withPeers y := rfl

/-! ## withRefusedTimer -/

@[simp] theorem State.withRefusedTimer_pending (s : State) (x : Option Nat) : (s.withRefusedTimer x).pending = s.pending := rfl
@[simp] theorem State.withRefusedTimer_released (s : State) (x : Option Nat) : (s.withRefusedTimer x).released = s.released := rfl
@[simp] theorem State.withRefusedTimer_now (s : State) (x : Option Nat) : (s.withRefusedTimer x).now = s.now := rfl
@[simp] theorem State.withRefusedTimer_line (s : State) (x : Option Nat) : (s.withRefusedTimer x).line = s.line := rfl
@[simp] theorem State.withRefusedTimer_peers (s : State) (x : Option Nat) : (s.withRefusedTimer x).peers = s.peers := rfl
@[simp] theorem State.withRefusedTimer_refusedTimer (s : State) (x : Option Nat) : (s.withRefusedTimer x).refusedTimer = x := rfl
@[simp] theorem State.withRefusedTimer_lamp (s : State) (x : Option Nat) : (s.withRefusedTimer x).lamp = s.lamp := rfl
@[simp] theorem State.withRefusedTimer_wear (s : State) (x : Option Nat) : (s.withRefusedTimer x).wear = s.wear := rfl
@[simp] theorem State.withRefusedTimer_router (s : State) (x : Option Nat) : (s.withRefusedTimer x).router = s.router := rfl
@[simp] theorem State.withRefusedTimer_geometry (s : State) (x : Option Nat) : (s.withRefusedTimer x).geometry = s.geometry := rfl
@[simp] theorem State.withRefusedTimer_lockout (s : State) (x : Option Nat) : (s.withRefusedTimer x).lockout = s.lockout := rfl
@[simp] theorem State.withRefusedTimer_schedule (s : State) (x : Option Nat) : (s.withRefusedTimer x).schedule = s.schedule := rfl
@[simp] theorem State.withRefusedTimer_duty (s : State) (x : Option Nat) : (s.withRefusedTimer x).duty = s.duty := rfl
@[simp] theorem State.withRefusedTimer_conditions (s : State) (x : Option Nat) : (s.withRefusedTimer x).conditions = s.conditions := rfl
@[simp] theorem State.withRefusedTimer_store (s : State) (x : Option Nat) : (s.withRefusedTimer x).store = s.store := rfl

/-- A block put back as it stands changes nothing. -/
@[simp] theorem State.withRefusedTimer_self (s : State) : s.withRefusedTimer s.refusedTimer = s := rfl
/-- The later replacement of a block stands. -/
@[simp] theorem State.withRefusedTimer_twice (s : State) (x y : Option Nat) : (s.withRefusedTimer x).withRefusedTimer y = s.withRefusedTimer y := rfl

/-! ## withLamp -/

@[simp] theorem State.withLamp_pending (s : State) (x : Lamp) : (s.withLamp x).pending = s.pending := rfl
@[simp] theorem State.withLamp_released (s : State) (x : Lamp) : (s.withLamp x).released = s.released := rfl
@[simp] theorem State.withLamp_now (s : State) (x : Lamp) : (s.withLamp x).now = s.now := rfl
@[simp] theorem State.withLamp_line (s : State) (x : Lamp) : (s.withLamp x).line = s.line := rfl
@[simp] theorem State.withLamp_peers (s : State) (x : Lamp) : (s.withLamp x).peers = s.peers := rfl
@[simp] theorem State.withLamp_refusedTimer (s : State) (x : Lamp) : (s.withLamp x).refusedTimer = s.refusedTimer := rfl
@[simp] theorem State.withLamp_lamp (s : State) (x : Lamp) : (s.withLamp x).lamp = x := rfl
@[simp] theorem State.withLamp_wear (s : State) (x : Lamp) : (s.withLamp x).wear = s.wear := rfl
@[simp] theorem State.withLamp_router (s : State) (x : Lamp) : (s.withLamp x).router = s.router := rfl
@[simp] theorem State.withLamp_geometry (s : State) (x : Lamp) : (s.withLamp x).geometry = s.geometry := rfl
@[simp] theorem State.withLamp_lockout (s : State) (x : Lamp) : (s.withLamp x).lockout = s.lockout := rfl
@[simp] theorem State.withLamp_schedule (s : State) (x : Lamp) : (s.withLamp x).schedule = s.schedule := rfl
@[simp] theorem State.withLamp_duty (s : State) (x : Lamp) : (s.withLamp x).duty = s.duty := rfl
@[simp] theorem State.withLamp_conditions (s : State) (x : Lamp) : (s.withLamp x).conditions = s.conditions := rfl
@[simp] theorem State.withLamp_store (s : State) (x : Lamp) : (s.withLamp x).store = s.store := rfl

/-- A block put back as it stands changes nothing. -/
@[simp] theorem State.withLamp_self (s : State) : s.withLamp s.lamp = s := rfl
/-- The later replacement of a block stands. -/
@[simp] theorem State.withLamp_twice (s : State) (x y : Lamp) : (s.withLamp x).withLamp y = s.withLamp y := rfl

/-! ## withWear -/

@[simp] theorem State.withWear_pending (s : State) (x : Wear) : (s.withWear x).pending = s.pending := rfl
@[simp] theorem State.withWear_released (s : State) (x : Wear) : (s.withWear x).released = s.released := rfl
@[simp] theorem State.withWear_now (s : State) (x : Wear) : (s.withWear x).now = s.now := rfl
@[simp] theorem State.withWear_line (s : State) (x : Wear) : (s.withWear x).line = s.line := rfl
@[simp] theorem State.withWear_peers (s : State) (x : Wear) : (s.withWear x).peers = s.peers := rfl
@[simp] theorem State.withWear_refusedTimer (s : State) (x : Wear) : (s.withWear x).refusedTimer = s.refusedTimer := rfl
@[simp] theorem State.withWear_lamp (s : State) (x : Wear) : (s.withWear x).lamp = s.lamp := rfl
@[simp] theorem State.withWear_wear (s : State) (x : Wear) : (s.withWear x).wear = x := rfl
@[simp] theorem State.withWear_router (s : State) (x : Wear) : (s.withWear x).router = s.router := rfl
@[simp] theorem State.withWear_geometry (s : State) (x : Wear) : (s.withWear x).geometry = s.geometry := rfl
@[simp] theorem State.withWear_lockout (s : State) (x : Wear) : (s.withWear x).lockout = s.lockout := rfl
@[simp] theorem State.withWear_schedule (s : State) (x : Wear) : (s.withWear x).schedule = s.schedule := rfl
@[simp] theorem State.withWear_duty (s : State) (x : Wear) : (s.withWear x).duty = s.duty := rfl
@[simp] theorem State.withWear_conditions (s : State) (x : Wear) : (s.withWear x).conditions = s.conditions := rfl
@[simp] theorem State.withWear_store (s : State) (x : Wear) : (s.withWear x).store = s.store := rfl

/-- A block put back as it stands changes nothing. -/
@[simp] theorem State.withWear_self (s : State) : s.withWear s.wear = s := rfl
/-- The later replacement of a block stands. -/
@[simp] theorem State.withWear_twice (s : State) (x y : Wear) : (s.withWear x).withWear y = s.withWear y := rfl

/-! ## withRouter -/

@[simp] theorem State.withRouter_pending (s : State) (x : Router) : (s.withRouter x).pending = s.pending := rfl
@[simp] theorem State.withRouter_released (s : State) (x : Router) : (s.withRouter x).released = s.released := rfl
@[simp] theorem State.withRouter_now (s : State) (x : Router) : (s.withRouter x).now = s.now := rfl
@[simp] theorem State.withRouter_line (s : State) (x : Router) : (s.withRouter x).line = s.line := rfl
@[simp] theorem State.withRouter_peers (s : State) (x : Router) : (s.withRouter x).peers = s.peers := rfl
@[simp] theorem State.withRouter_refusedTimer (s : State) (x : Router) : (s.withRouter x).refusedTimer = s.refusedTimer := rfl
@[simp] theorem State.withRouter_lamp (s : State) (x : Router) : (s.withRouter x).lamp = s.lamp := rfl
@[simp] theorem State.withRouter_wear (s : State) (x : Router) : (s.withRouter x).wear = s.wear := rfl
@[simp] theorem State.withRouter_router (s : State) (x : Router) : (s.withRouter x).router = x := rfl
@[simp] theorem State.withRouter_geometry (s : State) (x : Router) : (s.withRouter x).geometry = s.geometry := rfl
@[simp] theorem State.withRouter_lockout (s : State) (x : Router) : (s.withRouter x).lockout = s.lockout := rfl
@[simp] theorem State.withRouter_schedule (s : State) (x : Router) : (s.withRouter x).schedule = s.schedule := rfl
@[simp] theorem State.withRouter_duty (s : State) (x : Router) : (s.withRouter x).duty = s.duty := rfl
@[simp] theorem State.withRouter_conditions (s : State) (x : Router) : (s.withRouter x).conditions = s.conditions := rfl
@[simp] theorem State.withRouter_store (s : State) (x : Router) : (s.withRouter x).store = s.store := rfl

/-- A block put back as it stands changes nothing. -/
@[simp] theorem State.withRouter_self (s : State) : s.withRouter s.router = s := rfl
/-- The later replacement of a block stands. -/
@[simp] theorem State.withRouter_twice (s : State) (x y : Router) : (s.withRouter x).withRouter y = s.withRouter y := rfl

/-! ## withGeometry -/

@[simp] theorem State.withGeometry_pending (s : State) (x : Geometry) : (s.withGeometry x).pending = s.pending := rfl
@[simp] theorem State.withGeometry_released (s : State) (x : Geometry) : (s.withGeometry x).released = s.released := rfl
@[simp] theorem State.withGeometry_now (s : State) (x : Geometry) : (s.withGeometry x).now = s.now := rfl
@[simp] theorem State.withGeometry_line (s : State) (x : Geometry) : (s.withGeometry x).line = s.line := rfl
@[simp] theorem State.withGeometry_peers (s : State) (x : Geometry) : (s.withGeometry x).peers = s.peers := rfl
@[simp] theorem State.withGeometry_refusedTimer (s : State) (x : Geometry) : (s.withGeometry x).refusedTimer = s.refusedTimer := rfl
@[simp] theorem State.withGeometry_lamp (s : State) (x : Geometry) : (s.withGeometry x).lamp = s.lamp := rfl
@[simp] theorem State.withGeometry_wear (s : State) (x : Geometry) : (s.withGeometry x).wear = s.wear := rfl
@[simp] theorem State.withGeometry_router (s : State) (x : Geometry) : (s.withGeometry x).router = s.router := rfl
@[simp] theorem State.withGeometry_geometry (s : State) (x : Geometry) : (s.withGeometry x).geometry = x := rfl
@[simp] theorem State.withGeometry_lockout (s : State) (x : Geometry) : (s.withGeometry x).lockout = s.lockout := rfl
@[simp] theorem State.withGeometry_schedule (s : State) (x : Geometry) : (s.withGeometry x).schedule = s.schedule := rfl
@[simp] theorem State.withGeometry_duty (s : State) (x : Geometry) : (s.withGeometry x).duty = s.duty := rfl
@[simp] theorem State.withGeometry_conditions (s : State) (x : Geometry) : (s.withGeometry x).conditions = s.conditions := rfl
@[simp] theorem State.withGeometry_store (s : State) (x : Geometry) : (s.withGeometry x).store = s.store := rfl

/-- A block put back as it stands changes nothing. -/
@[simp] theorem State.withGeometry_self (s : State) : s.withGeometry s.geometry = s := rfl
/-- The later replacement of a block stands. -/
@[simp] theorem State.withGeometry_twice (s : State) (x y : Geometry) : (s.withGeometry x).withGeometry y = s.withGeometry y := rfl

/-! ## withLockout -/

@[simp] theorem State.withLockout_pending (s : State) (x : Lockout) : (s.withLockout x).pending = s.pending := rfl
@[simp] theorem State.withLockout_released (s : State) (x : Lockout) : (s.withLockout x).released = s.released := rfl
@[simp] theorem State.withLockout_now (s : State) (x : Lockout) : (s.withLockout x).now = s.now := rfl
@[simp] theorem State.withLockout_line (s : State) (x : Lockout) : (s.withLockout x).line = s.line := rfl
@[simp] theorem State.withLockout_peers (s : State) (x : Lockout) : (s.withLockout x).peers = s.peers := rfl
@[simp] theorem State.withLockout_refusedTimer (s : State) (x : Lockout) : (s.withLockout x).refusedTimer = s.refusedTimer := rfl
@[simp] theorem State.withLockout_lamp (s : State) (x : Lockout) : (s.withLockout x).lamp = s.lamp := rfl
@[simp] theorem State.withLockout_wear (s : State) (x : Lockout) : (s.withLockout x).wear = s.wear := rfl
@[simp] theorem State.withLockout_router (s : State) (x : Lockout) : (s.withLockout x).router = s.router := rfl
@[simp] theorem State.withLockout_geometry (s : State) (x : Lockout) : (s.withLockout x).geometry = s.geometry := rfl
@[simp] theorem State.withLockout_lockout (s : State) (x : Lockout) : (s.withLockout x).lockout = x := rfl
@[simp] theorem State.withLockout_schedule (s : State) (x : Lockout) : (s.withLockout x).schedule = s.schedule := rfl
@[simp] theorem State.withLockout_duty (s : State) (x : Lockout) : (s.withLockout x).duty = s.duty := rfl
@[simp] theorem State.withLockout_conditions (s : State) (x : Lockout) : (s.withLockout x).conditions = s.conditions := rfl
@[simp] theorem State.withLockout_store (s : State) (x : Lockout) : (s.withLockout x).store = s.store := rfl

/-- A block put back as it stands changes nothing. -/
@[simp] theorem State.withLockout_self (s : State) : s.withLockout s.lockout = s := rfl
/-- The later replacement of a block stands. -/
@[simp] theorem State.withLockout_twice (s : State) (x y : Lockout) : (s.withLockout x).withLockout y = s.withLockout y := rfl

/-! ## withSchedule -/

@[simp] theorem State.withSchedule_pending (s : State) (x : Schedule) : (s.withSchedule x).pending = s.pending := rfl
@[simp] theorem State.withSchedule_released (s : State) (x : Schedule) : (s.withSchedule x).released = s.released := rfl
@[simp] theorem State.withSchedule_now (s : State) (x : Schedule) : (s.withSchedule x).now = s.now := rfl
@[simp] theorem State.withSchedule_line (s : State) (x : Schedule) : (s.withSchedule x).line = s.line := rfl
@[simp] theorem State.withSchedule_peers (s : State) (x : Schedule) : (s.withSchedule x).peers = s.peers := rfl
@[simp] theorem State.withSchedule_refusedTimer (s : State) (x : Schedule) : (s.withSchedule x).refusedTimer = s.refusedTimer := rfl
@[simp] theorem State.withSchedule_lamp (s : State) (x : Schedule) : (s.withSchedule x).lamp = s.lamp := rfl
@[simp] theorem State.withSchedule_wear (s : State) (x : Schedule) : (s.withSchedule x).wear = s.wear := rfl
@[simp] theorem State.withSchedule_router (s : State) (x : Schedule) : (s.withSchedule x).router = s.router := rfl
@[simp] theorem State.withSchedule_geometry (s : State) (x : Schedule) : (s.withSchedule x).geometry = s.geometry := rfl
@[simp] theorem State.withSchedule_lockout (s : State) (x : Schedule) : (s.withSchedule x).lockout = s.lockout := rfl
@[simp] theorem State.withSchedule_schedule (s : State) (x : Schedule) : (s.withSchedule x).schedule = x := rfl
@[simp] theorem State.withSchedule_duty (s : State) (x : Schedule) : (s.withSchedule x).duty = s.duty := rfl
@[simp] theorem State.withSchedule_conditions (s : State) (x : Schedule) : (s.withSchedule x).conditions = s.conditions := rfl
@[simp] theorem State.withSchedule_store (s : State) (x : Schedule) : (s.withSchedule x).store = s.store := rfl

/-- A block put back as it stands changes nothing. -/
@[simp] theorem State.withSchedule_self (s : State) : s.withSchedule s.schedule = s := rfl
/-- The later replacement of a block stands. -/
@[simp] theorem State.withSchedule_twice (s : State) (x y : Schedule) : (s.withSchedule x).withSchedule y = s.withSchedule y := rfl

/-! ## withDuty -/

@[simp] theorem State.withDuty_pending (s : State) (x : Duty) : (s.withDuty x).pending = s.pending := rfl
@[simp] theorem State.withDuty_released (s : State) (x : Duty) : (s.withDuty x).released = s.released := rfl
@[simp] theorem State.withDuty_now (s : State) (x : Duty) : (s.withDuty x).now = s.now := rfl
@[simp] theorem State.withDuty_line (s : State) (x : Duty) : (s.withDuty x).line = s.line := rfl
@[simp] theorem State.withDuty_peers (s : State) (x : Duty) : (s.withDuty x).peers = s.peers := rfl
@[simp] theorem State.withDuty_refusedTimer (s : State) (x : Duty) : (s.withDuty x).refusedTimer = s.refusedTimer := rfl
@[simp] theorem State.withDuty_lamp (s : State) (x : Duty) : (s.withDuty x).lamp = s.lamp := rfl
@[simp] theorem State.withDuty_wear (s : State) (x : Duty) : (s.withDuty x).wear = s.wear := rfl
@[simp] theorem State.withDuty_router (s : State) (x : Duty) : (s.withDuty x).router = s.router := rfl
@[simp] theorem State.withDuty_geometry (s : State) (x : Duty) : (s.withDuty x).geometry = s.geometry := rfl
@[simp] theorem State.withDuty_lockout (s : State) (x : Duty) : (s.withDuty x).lockout = s.lockout := rfl
@[simp] theorem State.withDuty_schedule (s : State) (x : Duty) : (s.withDuty x).schedule = s.schedule := rfl
@[simp] theorem State.withDuty_duty (s : State) (x : Duty) : (s.withDuty x).duty = x := rfl
@[simp] theorem State.withDuty_conditions (s : State) (x : Duty) : (s.withDuty x).conditions = s.conditions := rfl
@[simp] theorem State.withDuty_store (s : State) (x : Duty) : (s.withDuty x).store = s.store := rfl

/-- A block put back as it stands changes nothing. -/
@[simp] theorem State.withDuty_self (s : State) : s.withDuty s.duty = s := rfl
/-- The later replacement of a block stands. -/
@[simp] theorem State.withDuty_twice (s : State) (x y : Duty) : (s.withDuty x).withDuty y = s.withDuty y := rfl

/-! ## withConditions -/

@[simp] theorem State.withConditions_pending (s : State) (x : BitVec 9) : (s.withConditions x).pending = s.pending := rfl
@[simp] theorem State.withConditions_released (s : State) (x : BitVec 9) : (s.withConditions x).released = s.released := rfl
@[simp] theorem State.withConditions_now (s : State) (x : BitVec 9) : (s.withConditions x).now = s.now := rfl
@[simp] theorem State.withConditions_line (s : State) (x : BitVec 9) : (s.withConditions x).line = s.line := rfl
@[simp] theorem State.withConditions_peers (s : State) (x : BitVec 9) : (s.withConditions x).peers = s.peers := rfl
@[simp] theorem State.withConditions_refusedTimer (s : State) (x : BitVec 9) : (s.withConditions x).refusedTimer = s.refusedTimer := rfl
@[simp] theorem State.withConditions_lamp (s : State) (x : BitVec 9) : (s.withConditions x).lamp = s.lamp := rfl
@[simp] theorem State.withConditions_wear (s : State) (x : BitVec 9) : (s.withConditions x).wear = s.wear := rfl
@[simp] theorem State.withConditions_router (s : State) (x : BitVec 9) : (s.withConditions x).router = s.router := rfl
@[simp] theorem State.withConditions_geometry (s : State) (x : BitVec 9) : (s.withConditions x).geometry = s.geometry := rfl
@[simp] theorem State.withConditions_lockout (s : State) (x : BitVec 9) : (s.withConditions x).lockout = s.lockout := rfl
@[simp] theorem State.withConditions_schedule (s : State) (x : BitVec 9) : (s.withConditions x).schedule = s.schedule := rfl
@[simp] theorem State.withConditions_duty (s : State) (x : BitVec 9) : (s.withConditions x).duty = s.duty := rfl
@[simp] theorem State.withConditions_conditions (s : State) (x : BitVec 9) : (s.withConditions x).conditions = x := rfl
@[simp] theorem State.withConditions_store (s : State) (x : BitVec 9) : (s.withConditions x).store = s.store := rfl

/-- A block put back as it stands changes nothing. -/
@[simp] theorem State.withConditions_self (s : State) : s.withConditions s.conditions = s := rfl
/-- The later replacement of a block stands. -/
@[simp] theorem State.withConditions_twice (s : State) (x y : BitVec 9) : (s.withConditions x).withConditions y = s.withConditions y := rfl

/-! ## withStore -/

@[simp] theorem State.withStore_pending (s : State) (x : Store) : (s.withStore x).pending = s.pending := rfl
@[simp] theorem State.withStore_released (s : State) (x : Store) : (s.withStore x).released = s.released := rfl
@[simp] theorem State.withStore_now (s : State) (x : Store) : (s.withStore x).now = s.now := rfl
@[simp] theorem State.withStore_line (s : State) (x : Store) : (s.withStore x).line = s.line := rfl
@[simp] theorem State.withStore_peers (s : State) (x : Store) : (s.withStore x).peers = s.peers := rfl
@[simp] theorem State.withStore_refusedTimer (s : State) (x : Store) : (s.withStore x).refusedTimer = s.refusedTimer := rfl
@[simp] theorem State.withStore_lamp (s : State) (x : Store) : (s.withStore x).lamp = s.lamp := rfl
@[simp] theorem State.withStore_wear (s : State) (x : Store) : (s.withStore x).wear = s.wear := rfl
@[simp] theorem State.withStore_router (s : State) (x : Store) : (s.withStore x).router = s.router := rfl
@[simp] theorem State.withStore_geometry (s : State) (x : Store) : (s.withStore x).geometry = s.geometry := rfl
@[simp] theorem State.withStore_lockout (s : State) (x : Store) : (s.withStore x).lockout = s.lockout := rfl
@[simp] theorem State.withStore_schedule (s : State) (x : Store) : (s.withStore x).schedule = s.schedule := rfl
@[simp] theorem State.withStore_duty (s : State) (x : Store) : (s.withStore x).duty = s.duty := rfl
@[simp] theorem State.withStore_conditions (s : State) (x : Store) : (s.withStore x).conditions = s.conditions := rfl
@[simp] theorem State.withStore_store (s : State) (x : Store) : (s.withStore x).store = x := rfl

/-- A block put back as it stands changes nothing. -/
@[simp] theorem State.withStore_self (s : State) : s.withStore s.store = s := rfl
/-- The later replacement of a block stands. -/
@[simp] theorem State.withStore_twice (s : State) (x y : Store) : (s.withStore x).withStore y = s.withStore y := rfl

end Sys2Proof.Machine
end

