-- ==== Sys2Proof/Laws/Views.lean ====
section
/-! SUPPORT. Each derived view reads only some of the blocks: replacing another block leaves it as it is. -/

namespace Sys2Proof.Machine

@[simp] theorem State.withLine_latched (s : State) (x : Line) (c : Condition) : (s.withLine x).latched c = s.latched c := rfl
@[simp] theorem State.withPeers_latched (s : State) (x : Peers) (c : Condition) : (s.withPeers x).latched c = s.latched c := rfl
@[simp] theorem State.withRefusedTimer_latched (s : State) (x : Option Nat) (c : Condition) : (s.withRefusedTimer x).latched c = s.latched c := rfl
@[simp] theorem State.withLamp_latched (s : State) (x : Lamp) (c : Condition) : (s.withLamp x).latched c = s.latched c := rfl
@[simp] theorem State.withWear_latched (s : State) (x : Wear) (c : Condition) : (s.withWear x).latched c = s.latched c := rfl
@[simp] theorem State.withRouter_latched (s : State) (x : Router) (c : Condition) : (s.withRouter x).latched c = s.latched c := rfl
@[simp] theorem State.withGeometry_latched (s : State) (x : Geometry) (c : Condition) : (s.withGeometry x).latched c = s.latched c := rfl
@[simp] theorem State.withLockout_latched (s : State) (x : Lockout) (c : Condition) : (s.withLockout x).latched c = s.latched c := rfl
@[simp] theorem State.withSchedule_latched (s : State) (x : Schedule) (c : Condition) : (s.withSchedule x).latched c = s.latched c := rfl
@[simp] theorem State.withDuty_latched (s : State) (x : Duty) (c : Condition) : (s.withDuty x).latched c = s.latched c := rfl
@[simp] theorem State.withStore_latched (s : State) (x : Store) (c : Condition) : (s.withStore x).latched c = s.latched c := rfl

@[simp] theorem State.withLine_noticeWanted (s : State) (x : Line) (c : Condition) : (s.withLine x).noticeWanted c = s.noticeWanted c := rfl
@[simp] theorem State.withPeers_noticeWanted (s : State) (x : Peers) (c : Condition) : (s.withPeers x).noticeWanted c = s.noticeWanted c := rfl
@[simp] theorem State.withRefusedTimer_noticeWanted (s : State) (x : Option Nat) (c : Condition) : (s.withRefusedTimer x).noticeWanted c = s.noticeWanted c := rfl
@[simp] theorem State.withLamp_noticeWanted (s : State) (x : Lamp) (c : Condition) : (s.withLamp x).noticeWanted c = s.noticeWanted c := rfl
@[simp] theorem State.withWear_noticeWanted (s : State) (x : Wear) (c : Condition) : (s.withWear x).noticeWanted c = s.noticeWanted c := rfl
@[simp] theorem State.withRouter_noticeWanted (s : State) (x : Router) (c : Condition) : (s.withRouter x).noticeWanted c = s.noticeWanted c := rfl
@[simp] theorem State.withGeometry_noticeWanted (s : State) (x : Geometry) (c : Condition) : (s.withGeometry x).noticeWanted c = s.noticeWanted c := rfl
@[simp] theorem State.withLockout_noticeWanted (s : State) (x : Lockout) (c : Condition) : (s.withLockout x).noticeWanted c = s.noticeWanted c := rfl
@[simp] theorem State.withSchedule_noticeWanted (s : State) (x : Schedule) (c : Condition) : (s.withSchedule x).noticeWanted c = s.noticeWanted c := rfl
@[simp] theorem State.withDuty_noticeWanted (s : State) (x : Duty) (c : Condition) : (s.withDuty x).noticeWanted c = s.noticeWanted c := rfl
@[simp] theorem State.withConditions_noticeWanted (s : State) (x : BitVec 9) (c : Condition) : (s.withConditions x).noticeWanted c = s.noticeWanted c := rfl

@[simp] theorem State.withLine_lampFaulted (s : State) (x : Line) : (s.withLine x).lampFaulted = s.lampFaulted := rfl
@[simp] theorem State.withPeers_lampFaulted (s : State) (x : Peers) : (s.withPeers x).lampFaulted = s.lampFaulted := rfl
@[simp] theorem State.withRefusedTimer_lampFaulted (s : State) (x : Option Nat) : (s.withRefusedTimer x).lampFaulted = s.lampFaulted := rfl
@[simp] theorem State.withLamp_lampFaulted (s : State) (x : Lamp) : (s.withLamp x).lampFaulted = s.lampFaulted := rfl
@[simp] theorem State.withWear_lampFaulted (s : State) (x : Wear) : (s.withWear x).lampFaulted = s.lampFaulted := rfl
@[simp] theorem State.withRouter_lampFaulted (s : State) (x : Router) : (s.withRouter x).lampFaulted = s.lampFaulted := rfl
@[simp] theorem State.withGeometry_lampFaulted (s : State) (x : Geometry) : (s.withGeometry x).lampFaulted = s.lampFaulted := rfl
@[simp] theorem State.withLockout_lampFaulted (s : State) (x : Lockout) : (s.withLockout x).lampFaulted = s.lampFaulted := rfl
@[simp] theorem State.withSchedule_lampFaulted (s : State) (x : Schedule) : (s.withSchedule x).lampFaulted = s.lampFaulted := rfl
@[simp] theorem State.withDuty_lampFaulted (s : State) (x : Duty) : (s.withDuty x).lampFaulted = s.lampFaulted := rfl
@[simp] theorem State.withStore_lampFaulted (s : State) (x : Store) : (s.withStore x).lampFaulted = s.lampFaulted := rfl

@[simp] theorem State.withLine_life (s : State) (x : Line) : (s.withLine x).life = s.life := rfl
@[simp] theorem State.withPeers_life (s : State) (x : Peers) : (s.withPeers x).life = s.life := rfl
@[simp] theorem State.withRefusedTimer_life (s : State) (x : Option Nat) : (s.withRefusedTimer x).life = s.life := rfl
@[simp] theorem State.withLamp_life (s : State) (x : Lamp) : (s.withLamp x).life = s.life := rfl
@[simp] theorem State.withRouter_life (s : State) (x : Router) : (s.withRouter x).life = s.life := rfl
@[simp] theorem State.withGeometry_life (s : State) (x : Geometry) : (s.withGeometry x).life = s.life := rfl
@[simp] theorem State.withLockout_life (s : State) (x : Lockout) : (s.withLockout x).life = s.life := rfl
@[simp] theorem State.withSchedule_life (s : State) (x : Schedule) : (s.withSchedule x).life = s.life := rfl
@[simp] theorem State.withDuty_life (s : State) (x : Duty) : (s.withDuty x).life = s.life := rfl
@[simp] theorem State.withConditions_life (s : State) (x : BitVec 9) : (s.withConditions x).life = s.life := rfl

@[simp] theorem State.withLine_wearKey (s : State) (x : Line) : (s.withLine x).wearKey = s.wearKey := rfl
@[simp] theorem State.withPeers_wearKey (s : State) (x : Peers) : (s.withPeers x).wearKey = s.wearKey := rfl
@[simp] theorem State.withRefusedTimer_wearKey (s : State) (x : Option Nat) : (s.withRefusedTimer x).wearKey = s.wearKey := rfl
@[simp] theorem State.withLamp_wearKey (s : State) (x : Lamp) : (s.withLamp x).wearKey = s.wearKey := rfl
@[simp] theorem State.withRouter_wearKey (s : State) (x : Router) : (s.withRouter x).wearKey = s.wearKey := rfl
@[simp] theorem State.withGeometry_wearKey (s : State) (x : Geometry) : (s.withGeometry x).wearKey = s.wearKey := rfl
@[simp] theorem State.withLockout_wearKey (s : State) (x : Lockout) : (s.withLockout x).wearKey = s.wearKey := rfl
@[simp] theorem State.withSchedule_wearKey (s : State) (x : Schedule) : (s.withSchedule x).wearKey = s.wearKey := rfl
@[simp] theorem State.withDuty_wearKey (s : State) (x : Duty) : (s.withDuty x).wearKey = s.wearKey := rfl
@[simp] theorem State.withConditions_wearKey (s : State) (x : BitVec 9) : (s.withConditions x).wearKey = s.wearKey := rfl

@[simp] theorem State.withLine_hot (s : State) (x : Line) : (s.withLine x).hot = s.hot := rfl
@[simp] theorem State.withPeers_hot (s : State) (x : Peers) : (s.withPeers x).hot = s.hot := rfl
@[simp] theorem State.withRefusedTimer_hot (s : State) (x : Option Nat) : (s.withRefusedTimer x).hot = s.hot := rfl
@[simp] theorem State.withWear_hot (s : State) (x : Wear) : (s.withWear x).hot = s.hot := rfl
@[simp] theorem State.withRouter_hot (s : State) (x : Router) : (s.withRouter x).hot = s.hot := rfl
@[simp] theorem State.withGeometry_hot (s : State) (x : Geometry) : (s.withGeometry x).hot = s.hot := rfl
@[simp] theorem State.withLockout_hot (s : State) (x : Lockout) : (s.withLockout x).hot = s.hot := rfl
@[simp] theorem State.withSchedule_hot (s : State) (x : Schedule) : (s.withSchedule x).hot = s.hot := rfl
@[simp] theorem State.withDuty_hot (s : State) (x : Duty) : (s.withDuty x).hot = s.hot := rfl
@[simp] theorem State.withConditions_hot (s : State) (x : BitVec 9) : (s.withConditions x).hot = s.hot := rfl
@[simp] theorem State.withStore_hot (s : State) (x : Store) : (s.withStore x).hot = s.hot := rfl

@[simp] theorem State.withLine_served (s : State) (x : Line) : (s.withLine x).served = s.served := rfl
@[simp] theorem State.withPeers_served (s : State) (x : Peers) : (s.withPeers x).served = s.served := rfl
@[simp] theorem State.withRefusedTimer_served (s : State) (x : Option Nat) : (s.withRefusedTimer x).served = s.served := rfl
@[simp] theorem State.withRouter_served (s : State) (x : Router) : (s.withRouter x).served = s.served := rfl
@[simp] theorem State.withGeometry_served (s : State) (x : Geometry) : (s.withGeometry x).served = s.served := rfl
@[simp] theorem State.withLockout_served (s : State) (x : Lockout) : (s.withLockout x).served = s.served := rfl
@[simp] theorem State.withSchedule_served (s : State) (x : Schedule) : (s.withSchedule x).served = s.served := rfl
@[simp] theorem State.withDuty_served (s : State) (x : Duty) : (s.withDuty x).served = s.served := rfl
@[simp] theorem State.withConditions_served (s : State) (x : BitVec 9) : (s.withConditions x).served = s.served := rfl

@[simp] theorem State.withLine_barred (s : State) (x : Line) : (s.withLine x).barred = s.barred := rfl
@[simp] theorem State.withPeers_barred (s : State) (x : Peers) : (s.withPeers x).barred = s.barred := rfl
@[simp] theorem State.withRefusedTimer_barred (s : State) (x : Option Nat) : (s.withRefusedTimer x).barred = s.barred := rfl
@[simp] theorem State.withLamp_barred (s : State) (x : Lamp) : (s.withLamp x).barred = s.barred := rfl
@[simp] theorem State.withRouter_barred (s : State) (x : Router) : (s.withRouter x).barred = s.barred := rfl
@[simp] theorem State.withGeometry_barred (s : State) (x : Geometry) : (s.withGeometry x).barred = s.barred := rfl
@[simp] theorem State.withLockout_barred (s : State) (x : Lockout) : (s.withLockout x).barred = s.barred := rfl
@[simp] theorem State.withSchedule_barred (s : State) (x : Schedule) : (s.withSchedule x).barred = s.barred := rfl
@[simp] theorem State.withDuty_barred (s : State) (x : Duty) : (s.withDuty x).barred = s.barred := rfl

@[simp] theorem State.withLine_level (s : State) (x : Line) : (s.withLine x).level = s.level := rfl
@[simp] theorem State.withPeers_level (s : State) (x : Peers) : (s.withPeers x).level = s.level := rfl
@[simp] theorem State.withRefusedTimer_level (s : State) (x : Option Nat) : (s.withRefusedTimer x).level = s.level := rfl
@[simp] theorem State.withLamp_level (s : State) (x : Lamp) : (s.withLamp x).level = s.level := rfl
@[simp] theorem State.withWear_level (s : State) (x : Wear) : (s.withWear x).level = s.level := rfl
@[simp] theorem State.withRouter_level (s : State) (x : Router) : (s.withRouter x).level = s.level := rfl
@[simp] theorem State.withGeometry_level (s : State) (x : Geometry) : (s.withGeometry x).level = s.level := rfl
@[simp] theorem State.withSchedule_level (s : State) (x : Schedule) : (s.withSchedule x).level = s.level := rfl
@[simp] theorem State.withDuty_level (s : State) (x : Duty) : (s.withDuty x).level = s.level := rfl
@[simp] theorem State.withConditions_level (s : State) (x : BitVec 9) : (s.withConditions x).level = s.level := rfl
@[simp] theorem State.withStore_level (s : State) (x : Store) : (s.withStore x).level = s.level := rfl

@[simp] theorem State.withLine_pictureShown (s : State) (x : Line) : (s.withLine x).pictureShown = s.pictureShown := rfl
@[simp] theorem State.withPeers_pictureShown (s : State) (x : Peers) : (s.withPeers x).pictureShown = s.pictureShown := rfl
@[simp] theorem State.withRefusedTimer_pictureShown (s : State) (x : Option Nat) : (s.withRefusedTimer x).pictureShown = s.pictureShown := rfl
@[simp] theorem State.withWear_pictureShown (s : State) (x : Wear) : (s.withWear x).pictureShown = s.pictureShown := rfl
@[simp] theorem State.withGeometry_pictureShown (s : State) (x : Geometry) : (s.withGeometry x).pictureShown = s.pictureShown := rfl
@[simp] theorem State.withLockout_pictureShown (s : State) (x : Lockout) : (s.withLockout x).pictureShown = s.pictureShown := rfl
@[simp] theorem State.withSchedule_pictureShown (s : State) (x : Schedule) : (s.withSchedule x).pictureShown = s.pictureShown := rfl
@[simp] theorem State.withDuty_pictureShown (s : State) (x : Duty) : (s.withDuty x).pictureShown = s.pictureShown := rfl
@[simp] theorem State.withConditions_pictureShown (s : State) (x : BitVec 9) : (s.withConditions x).pictureShown = s.pictureShown := rfl
@[simp] theorem State.withStore_pictureShown (s : State) (x : Store) : (s.withStore x).pictureShown = s.pictureShown := rfl

@[simp] theorem State.withLine_sourceShown (s : State) (x : Line) : (s.withLine x).sourceShown = s.sourceShown := rfl
@[simp] theorem State.withPeers_sourceShown (s : State) (x : Peers) : (s.withPeers x).sourceShown = s.sourceShown := rfl
@[simp] theorem State.withRefusedTimer_sourceShown (s : State) (x : Option Nat) : (s.withRefusedTimer x).sourceShown = s.sourceShown := rfl
@[simp] theorem State.withLamp_sourceShown (s : State) (x : Lamp) : (s.withLamp x).sourceShown = s.sourceShown := rfl
@[simp] theorem State.withWear_sourceShown (s : State) (x : Wear) : (s.withWear x).sourceShown = s.sourceShown := rfl
@[simp] theorem State.withGeometry_sourceShown (s : State) (x : Geometry) : (s.withGeometry x).sourceShown = s.sourceShown := rfl
@[simp] theorem State.withLockout_sourceShown (s : State) (x : Lockout) : (s.withLockout x).sourceShown = s.sourceShown := rfl
@[simp] theorem State.withSchedule_sourceShown (s : State) (x : Schedule) : (s.withSchedule x).sourceShown = s.sourceShown := rfl
@[simp] theorem State.withDuty_sourceShown (s : State) (x : Duty) : (s.withDuty x).sourceShown = s.sourceShown := rfl
@[simp] theorem State.withConditions_sourceShown (s : State) (x : BitVec 9) : (s.withConditions x).sourceShown = s.sourceShown := rfl
@[simp] theorem State.withStore_sourceShown (s : State) (x : Store) : (s.withStore x).sourceShown = s.sourceShown := rfl

@[simp] theorem State.withLine_summary (s : State) (x : Line) : (s.withLine x).summary = s.summary := rfl
@[simp] theorem State.withPeers_summary (s : State) (x : Peers) : (s.withPeers x).summary = s.summary := rfl
@[simp] theorem State.withRefusedTimer_summary (s : State) (x : Option Nat) : (s.withRefusedTimer x).summary = s.summary := rfl
@[simp] theorem State.withLamp_summary (s : State) (x : Lamp) : (s.withLamp x).summary = s.summary := rfl
@[simp] theorem State.withRouter_summary (s : State) (x : Router) : (s.withRouter x).summary = s.summary := rfl
@[simp] theorem State.withGeometry_summary (s : State) (x : Geometry) : (s.withGeometry x).summary = s.summary := rfl
@[simp] theorem State.withLockout_summary (s : State) (x : Lockout) : (s.withLockout x).summary = s.summary := rfl
@[simp] theorem State.withSchedule_summary (s : State) (x : Schedule) : (s.withSchedule x).summary = s.summary := rfl
@[simp] theorem State.withDuty_summary (s : State) (x : Duty) : (s.withDuty x).summary = s.summary := rfl

@[simp] theorem State.withLine_beacon (s : State) (x : Line) : (s.withLine x).beacon = s.beacon := rfl
@[simp] theorem State.withPeers_beacon (s : State) (x : Peers) : (s.withPeers x).beacon = s.beacon := rfl
@[simp] theorem State.withRefusedTimer_beacon (s : State) (x : Option Nat) : (s.withRefusedTimer x).beacon = s.beacon := rfl
@[simp] theorem State.withGeometry_beacon (s : State) (x : Geometry) : (s.withGeometry x).beacon = s.beacon := rfl

@[simp] theorem State.withLine_beaconNow (s : State) (x : Line) : (s.withLine x).beaconNow = s.beaconNow := rfl
@[simp] theorem State.withPeers_beaconNow (s : State) (x : Peers) : (s.withPeers x).beaconNow = s.beaconNow := rfl
@[simp] theorem State.withRefusedTimer_beaconNow (s : State) (x : Option Nat) : (s.withRefusedTimer x).beaconNow = s.beaconNow := rfl
@[simp] theorem State.withGeometry_beaconNow (s : State) (x : Geometry) : (s.withGeometry x).beaconNow = s.beaconNow := rfl

@[simp] theorem State.withPeers_queueHasRoom (s : State) (x : Peers) : (s.withPeers x).queueHasRoom = s.queueHasRoom := rfl
@[simp] theorem State.withRefusedTimer_queueHasRoom (s : State) (x : Option Nat) : (s.withRefusedTimer x).queueHasRoom = s.queueHasRoom := rfl
@[simp] theorem State.withLamp_queueHasRoom (s : State) (x : Lamp) : (s.withLamp x).queueHasRoom = s.queueHasRoom := rfl
@[simp] theorem State.withWear_queueHasRoom (s : State) (x : Wear) : (s.withWear x).queueHasRoom = s.queueHasRoom := rfl
@[simp] theorem State.withRouter_queueHasRoom (s : State) (x : Router) : (s.withRouter x).queueHasRoom = s.queueHasRoom := rfl
@[simp] theorem State.withGeometry_queueHasRoom (s : State) (x : Geometry) : (s.withGeometry x).queueHasRoom = s.queueHasRoom := rfl
@[simp] theorem State.withLockout_queueHasRoom (s : State) (x : Lockout) : (s.withLockout x).queueHasRoom = s.queueHasRoom := rfl
@[simp] theorem State.withSchedule_queueHasRoom (s : State) (x : Schedule) : (s.withSchedule x).queueHasRoom = s.queueHasRoom := rfl
@[simp] theorem State.withDuty_queueHasRoom (s : State) (x : Duty) : (s.withDuty x).queueHasRoom = s.queueHasRoom := rfl
@[simp] theorem State.withConditions_queueHasRoom (s : State) (x : BitVec 9) : (s.withConditions x).queueHasRoom = s.queueHasRoom := rfl
@[simp] theorem State.withStore_queueHasRoom (s : State) (x : Store) : (s.withStore x).queueHasRoom = s.queueHasRoom := rfl

@[simp] theorem State.withLine_loaded (s : State) (x : Line) : (s.withLine x).loaded = s.loaded := rfl
@[simp] theorem State.withPeers_loaded (s : State) (x : Peers) : (s.withPeers x).loaded = s.loaded := rfl
@[simp] theorem State.withRefusedTimer_loaded (s : State) (x : Option Nat) : (s.withRefusedTimer x).loaded = s.loaded := rfl
@[simp] theorem State.withLamp_loaded (s : State) (x : Lamp) : (s.withLamp x).loaded = s.loaded := rfl
@[simp] theorem State.withWear_loaded (s : State) (x : Wear) : (s.withWear x).loaded = s.loaded := rfl
@[simp] theorem State.withRouter_loaded (s : State) (x : Router) : (s.withRouter x).loaded = s.loaded := rfl
@[simp] theorem State.withGeometry_loaded (s : State) (x : Geometry) : (s.withGeometry x).loaded = s.loaded := rfl
@[simp] theorem State.withLockout_loaded (s : State) (x : Lockout) : (s.withLockout x).loaded = s.loaded := rfl
@[simp] theorem State.withSchedule_loaded (s : State) (x : Schedule) : (s.withSchedule x).loaded = s.loaded := rfl
@[simp] theorem State.withDuty_loaded (s : State) (x : Duty) : (s.withDuty x).loaded = s.loaded := rfl
@[simp] theorem State.withConditions_loaded (s : State) (x : BitVec 9) : (s.withConditions x).loaded = s.loaded := rfl

@[simp] theorem State.withLine_reading (s : State) (x : Line) : (s.withLine x).reading = s.reading := rfl
@[simp] theorem State.withPeers_reading (s : State) (x : Peers) : (s.withPeers x).reading = s.reading := rfl
@[simp] theorem State.withRefusedTimer_reading (s : State) (x : Option Nat) : (s.withRefusedTimer x).reading = s.reading := rfl
@[simp] theorem State.withLamp_reading (s : State) (x : Lamp) : (s.withLamp x).reading = s.reading := rfl
@[simp] theorem State.withWear_reading (s : State) (x : Wear) : (s.withWear x).reading = s.reading := rfl
@[simp] theorem State.withRouter_reading (s : State) (x : Router) : (s.withRouter x).reading = s.reading := rfl
@[simp] theorem State.withGeometry_reading (s : State) (x : Geometry) : (s.withGeometry x).reading = s.reading := rfl
@[simp] theorem State.withLockout_reading (s : State) (x : Lockout) : (s.withLockout x).reading = s.reading := rfl
@[simp] theorem State.withSchedule_reading (s : State) (x : Schedule) : (s.withSchedule x).reading = s.reading := rfl
@[simp] theorem State.withDuty_reading (s : State) (x : Duty) : (s.withDuty x).reading = s.reading := rfl
@[simp] theorem State.withConditions_reading (s : State) (x : BitVec 9) : (s.withConditions x).reading = s.reading := rfl

@[simp] theorem State.withPeers_restartReady (s : State) (x : Peers) : (s.withPeers x).restartReady = s.restartReady := rfl
@[simp] theorem State.withRefusedTimer_restartReady (s : State) (x : Option Nat) : (s.withRefusedTimer x).restartReady = s.restartReady := rfl
@[simp] theorem State.withLamp_restartReady (s : State) (x : Lamp) : (s.withLamp x).restartReady = s.restartReady := rfl
@[simp] theorem State.withWear_restartReady (s : State) (x : Wear) : (s.withWear x).restartReady = s.restartReady := rfl
@[simp] theorem State.withRouter_restartReady (s : State) (x : Router) : (s.withRouter x).restartReady = s.restartReady := rfl
@[simp] theorem State.withGeometry_restartReady (s : State) (x : Geometry) : (s.withGeometry x).restartReady = s.restartReady := rfl
@[simp] theorem State.withLockout_restartReady (s : State) (x : Lockout) : (s.withLockout x).restartReady = s.restartReady := rfl
@[simp] theorem State.withSchedule_restartReady (s : State) (x : Schedule) : (s.withSchedule x).restartReady = s.restartReady := rfl
@[simp] theorem State.withDuty_restartReady (s : State) (x : Duty) : (s.withDuty x).restartReady = s.restartReady := rfl
@[simp] theorem State.withConditions_restartReady (s : State) (x : BitVec 9) : (s.withConditions x).restartReady = s.restartReady := rfl

@[simp] theorem State.withLine_handoffBusy (s : State) (x : Line) : (s.withLine x).handoffBusy = s.handoffBusy := rfl
@[simp] theorem State.withPeers_handoffBusy (s : State) (x : Peers) : (s.withPeers x).handoffBusy = s.handoffBusy := rfl
@[simp] theorem State.withRefusedTimer_handoffBusy (s : State) (x : Option Nat) : (s.withRefusedTimer x).handoffBusy = s.handoffBusy := rfl
@[simp] theorem State.withLamp_handoffBusy (s : State) (x : Lamp) : (s.withLamp x).handoffBusy = s.handoffBusy := rfl
@[simp] theorem State.withWear_handoffBusy (s : State) (x : Wear) : (s.withWear x).handoffBusy = s.handoffBusy := rfl
@[simp] theorem State.withRouter_handoffBusy (s : State) (x : Router) : (s.withRouter x).handoffBusy = s.handoffBusy := rfl
@[simp] theorem State.withLockout_handoffBusy (s : State) (x : Lockout) : (s.withLockout x).handoffBusy = s.handoffBusy := rfl
@[simp] theorem State.withSchedule_handoffBusy (s : State) (x : Schedule) : (s.withSchedule x).handoffBusy = s.handoffBusy := rfl
@[simp] theorem State.withDuty_handoffBusy (s : State) (x : Duty) : (s.withDuty x).handoffBusy = s.handoffBusy := rfl
@[simp] theorem State.withConditions_handoffBusy (s : State) (x : BitVec 9) : (s.withConditions x).handoffBusy = s.handoffBusy := rfl
@[simp] theorem State.withStore_handoffBusy (s : State) (x : Store) : (s.withStore x).handoffBusy = s.handoffBusy := rfl

@[simp] theorem State.withPeers_destined (s : State) (x : Peers) (d : Byte) : (s.withPeers x).destined d = s.destined d := rfl
@[simp] theorem State.withRefusedTimer_destined (s : State) (x : Option Nat) (d : Byte) : (s.withRefusedTimer x).destined d = s.destined d := rfl
@[simp] theorem State.withLamp_destined (s : State) (x : Lamp) (d : Byte) : (s.withLamp x).destined d = s.destined d := rfl
@[simp] theorem State.withWear_destined (s : State) (x : Wear) (d : Byte) : (s.withWear x).destined d = s.destined d := rfl
@[simp] theorem State.withRouter_destined (s : State) (x : Router) (d : Byte) : (s.withRouter x).destined d = s.destined d := rfl
@[simp] theorem State.withGeometry_destined (s : State) (x : Geometry) (d : Byte) : (s.withGeometry x).destined d = s.destined d := rfl
@[simp] theorem State.withLockout_destined (s : State) (x : Lockout) (d : Byte) : (s.withLockout x).destined d = s.destined d := rfl
@[simp] theorem State.withSchedule_destined (s : State) (x : Schedule) (d : Byte) : (s.withSchedule x).destined d = s.destined d := rfl
@[simp] theorem State.withDuty_destined (s : State) (x : Duty) (d : Byte) : (s.withDuty x).destined d = s.destined d := rfl
@[simp] theorem State.withConditions_destined (s : State) (x : BitVec 9) (d : Byte) : (s.withConditions x).destined d = s.destined d := rfl

@[simp] theorem State.withLine_entryFound (s : State) (x : Line) : (s.withLine x).entryFound = s.entryFound := rfl
@[simp] theorem State.withPeers_entryFound (s : State) (x : Peers) : (s.withPeers x).entryFound = s.entryFound := rfl
@[simp] theorem State.withRefusedTimer_entryFound (s : State) (x : Option Nat) : (s.withRefusedTimer x).entryFound = s.entryFound := rfl
@[simp] theorem State.withLamp_entryFound (s : State) (x : Lamp) : (s.withLamp x).entryFound = s.entryFound := rfl
@[simp] theorem State.withWear_entryFound (s : State) (x : Wear) : (s.withWear x).entryFound = s.entryFound := rfl
@[simp] theorem State.withRouter_entryFound (s : State) (x : Router) : (s.withRouter x).entryFound = s.entryFound := rfl
@[simp] theorem State.withGeometry_entryFound (s : State) (x : Geometry) : (s.withGeometry x).entryFound = s.entryFound := rfl
@[simp] theorem State.withLockout_entryFound (s : State) (x : Lockout) : (s.withLockout x).entryFound = s.entryFound := rfl
@[simp] theorem State.withDuty_entryFound (s : State) (x : Duty) : (s.withDuty x).entryFound = s.entryFound := rfl
@[simp] theorem State.withConditions_entryFound (s : State) (x : BitVec 9) : (s.withConditions x).entryFound = s.entryFound := rfl

@[simp] theorem State.withPeers_ownCandidate (s : State) (x : Peers) : (s.withPeers x).ownCandidate = s.ownCandidate := rfl
@[simp] theorem State.withRefusedTimer_ownCandidate (s : State) (x : Option Nat) : (s.withRefusedTimer x).ownCandidate = s.ownCandidate := rfl
@[simp] theorem State.withRouter_ownCandidate (s : State) (x : Router) : (s.withRouter x).ownCandidate = s.ownCandidate := rfl
@[simp] theorem State.withGeometry_ownCandidate (s : State) (x : Geometry) : (s.withGeometry x).ownCandidate = s.ownCandidate := rfl
@[simp] theorem State.withLockout_ownCandidate (s : State) (x : Lockout) : (s.withLockout x).ownCandidate = s.ownCandidate := rfl
@[simp] theorem State.withSchedule_ownCandidate (s : State) (x : Schedule) : (s.withSchedule x).ownCandidate = s.ownCandidate := rfl
@[simp] theorem State.withDuty_ownCandidate (s : State) (x : Duty) : (s.withDuty x).ownCandidate = s.ownCandidate := rfl
@[simp] theorem State.withConditions_ownCandidate (s : State) (x : BitVec 9) : (s.withConditions x).ownCandidate = s.ownCandidate := rfl

@[simp] theorem State.withLine_peerCandidates (s : State) (x : Line) (g : Nat) : (s.withLine x).peerCandidates g = s.peerCandidates g := rfl
@[simp] theorem State.withRefusedTimer_peerCandidates (s : State) (x : Option Nat) (g : Nat) : (s.withRefusedTimer x).peerCandidates g = s.peerCandidates g := rfl
@[simp] theorem State.withLamp_peerCandidates (s : State) (x : Lamp) (g : Nat) : (s.withLamp x).peerCandidates g = s.peerCandidates g := rfl
@[simp] theorem State.withWear_peerCandidates (s : State) (x : Wear) (g : Nat) : (s.withWear x).peerCandidates g = s.peerCandidates g := rfl
@[simp] theorem State.withRouter_peerCandidates (s : State) (x : Router) (g : Nat) : (s.withRouter x).peerCandidates g = s.peerCandidates g := rfl
@[simp] theorem State.withGeometry_peerCandidates (s : State) (x : Geometry) (g : Nat) : (s.withGeometry x).peerCandidates g = s.peerCandidates g := rfl
@[simp] theorem State.withLockout_peerCandidates (s : State) (x : Lockout) (g : Nat) : (s.withLockout x).peerCandidates g = s.peerCandidates g := rfl
@[simp] theorem State.withSchedule_peerCandidates (s : State) (x : Schedule) (g : Nat) : (s.withSchedule x).peerCandidates g = s.peerCandidates g := rfl
@[simp] theorem State.withDuty_peerCandidates (s : State) (x : Duty) (g : Nat) : (s.withDuty x).peerCandidates g = s.peerCandidates g := rfl
@[simp] theorem State.withConditions_peerCandidates (s : State) (x : BitVec 9) (g : Nat) : (s.withConditions x).peerCandidates g = s.peerCandidates g := rfl
@[simp] theorem State.withStore_peerCandidates (s : State) (x : Store) (g : Nat) : (s.withStore x).peerCandidates g = s.peerCandidates g := rfl

@[simp] theorem State.withPeers_offerNow (s : State) (x : Peers) : (s.withPeers x).offerNow = s.offerNow := rfl
@[simp] theorem State.withRefusedTimer_offerNow (s : State) (x : Option Nat) : (s.withRefusedTimer x).offerNow = s.offerNow := rfl
@[simp] theorem State.withRouter_offerNow (s : State) (x : Router) : (s.withRouter x).offerNow = s.offerNow := rfl
@[simp] theorem State.withGeometry_offerNow (s : State) (x : Geometry) : (s.withGeometry x).offerNow = s.offerNow := rfl
@[simp] theorem State.withLockout_offerNow (s : State) (x : Lockout) : (s.withLockout x).offerNow = s.offerNow := rfl
@[simp] theorem State.withSchedule_offerNow (s : State) (x : Schedule) : (s.withSchedule x).offerNow = s.offerNow := rfl

@[simp] theorem State.withRefusedTimer_dutySources (s : State) (x : Option Nat) : (s.withRefusedTimer x).dutySources = s.dutySources := rfl
@[simp] theorem State.withRouter_dutySources (s : State) (x : Router) : (s.withRouter x).dutySources = s.dutySources := rfl
@[simp] theorem State.withGeometry_dutySources (s : State) (x : Geometry) : (s.withGeometry x).dutySources = s.dutySources := rfl
@[simp] theorem State.withLockout_dutySources (s : State) (x : Lockout) : (s.withLockout x).dutySources = s.dutySources := rfl
@[simp] theorem State.withSchedule_dutySources (s : State) (x : Schedule) : (s.withSchedule x).dutySources = s.dutySources := rfl

end Sys2Proof.Machine
end

