-- ==== Sys2Proof/Laws/FrameOps.lean ====
section
/-! SUPPORT. Which blocks each shared operation of Machine/Ops.lean leaves as they are. -/

namespace Sys2Proof.Machine

@[simp] theorem joinQueue_pending (f : Frame) (m : Bool) (s : State) : (joinQueue f m s).pending = s.pending := rfl
@[simp] theorem joinQueue_released (f : Frame) (m : Bool) (s : State) : (joinQueue f m s).released = s.released := rfl
@[simp] theorem joinQueue_now (f : Frame) (m : Bool) (s : State) : (joinQueue f m s).now = s.now := rfl
@[simp] theorem joinQueue_peers (f : Frame) (m : Bool) (s : State) : (joinQueue f m s).peers = s.peers := rfl
@[simp] theorem joinQueue_refusedTimer (f : Frame) (m : Bool) (s : State) : (joinQueue f m s).refusedTimer = s.refusedTimer := rfl
@[simp] theorem joinQueue_lamp (f : Frame) (m : Bool) (s : State) : (joinQueue f m s).lamp = s.lamp := rfl
@[simp] theorem joinQueue_wear (f : Frame) (m : Bool) (s : State) : (joinQueue f m s).wear = s.wear := rfl
@[simp] theorem joinQueue_router (f : Frame) (m : Bool) (s : State) : (joinQueue f m s).router = s.router := rfl
@[simp] theorem joinQueue_geometry (f : Frame) (m : Bool) (s : State) : (joinQueue f m s).geometry = s.geometry := rfl
@[simp] theorem joinQueue_lockout (f : Frame) (m : Bool) (s : State) : (joinQueue f m s).lockout = s.lockout := rfl
@[simp] theorem joinQueue_schedule (f : Frame) (m : Bool) (s : State) : (joinQueue f m s).schedule = s.schedule := rfl
@[simp] theorem joinQueue_duty (f : Frame) (m : Bool) (s : State) : (joinQueue f m s).duty = s.duty := rfl
@[simp] theorem joinQueue_conditions (f : Frame) (m : Bool) (s : State) : (joinQueue f m s).conditions = s.conditions := rfl
@[simp] theorem joinQueue_store (f : Frame) (m : Bool) (s : State) : (joinQueue f m s).store = s.store := rfl

@[simp] theorem offerFailureNotice_pending (r : FailureRecord) (s : State) : (offerFailureNotice r s).pending = s.pending := by
  unfold offerFailureNotice; (repeat' split) <;> simp
@[simp] theorem offerFailureNotice_released (r : FailureRecord) (s : State) : (offerFailureNotice r s).released = s.released := by
  unfold offerFailureNotice; (repeat' split) <;> simp
@[simp] theorem offerFailureNotice_now (r : FailureRecord) (s : State) : (offerFailureNotice r s).now = s.now := by
  unfold offerFailureNotice; (repeat' split) <;> simp
@[simp] theorem offerFailureNotice_peers (r : FailureRecord) (s : State) : (offerFailureNotice r s).peers = s.peers := by
  unfold offerFailureNotice; (repeat' split) <;> simp
@[simp] theorem offerFailureNotice_refusedTimer (r : FailureRecord) (s : State) : (offerFailureNotice r s).refusedTimer = s.refusedTimer := by
  unfold offerFailureNotice; (repeat' split) <;> simp
@[simp] theorem offerFailureNotice_lamp (r : FailureRecord) (s : State) : (offerFailureNotice r s).lamp = s.lamp := by
  unfold offerFailureNotice; (repeat' split) <;> simp
@[simp] theorem offerFailureNotice_wear (r : FailureRecord) (s : State) : (offerFailureNotice r s).wear = s.wear := by
  unfold offerFailureNotice; (repeat' split) <;> simp
@[simp] theorem offerFailureNotice_router (r : FailureRecord) (s : State) : (offerFailureNotice r s).router = s.router := by
  unfold offerFailureNotice; (repeat' split) <;> simp
@[simp] theorem offerFailureNotice_geometry (r : FailureRecord) (s : State) : (offerFailureNotice r s).geometry = s.geometry := by
  unfold offerFailureNotice; (repeat' split) <;> simp
@[simp] theorem offerFailureNotice_lockout (r : FailureRecord) (s : State) : (offerFailureNotice r s).lockout = s.lockout := by
  unfold offerFailureNotice; (repeat' split) <;> simp
@[simp] theorem offerFailureNotice_schedule (r : FailureRecord) (s : State) : (offerFailureNotice r s).schedule = s.schedule := by
  unfold offerFailureNotice; (repeat' split) <;> simp
@[simp] theorem offerFailureNotice_duty (r : FailureRecord) (s : State) : (offerFailureNotice r s).duty = s.duty := by
  unfold offerFailureNotice; (repeat' split) <;> simp
@[simp] theorem offerFailureNotice_conditions (r : FailureRecord) (s : State) : (offerFailureNotice r s).conditions = s.conditions := by
  unfold offerFailureNotice; (repeat' split) <;> simp
@[simp] theorem offerFailureNotice_store (r : FailureRecord) (s : State) : (offerFailureNotice r s).store = s.store := by
  unfold offerFailureNotice; (repeat' split) <;> simp

@[simp] theorem recordFailure_pending (r : FailureRecord) (s : State) : (recordFailure r s).pending = s.pending := by
  unfold recordFailure; (repeat' split) <;> simp
@[simp] theorem recordFailure_released (r : FailureRecord) (s : State) : (recordFailure r s).released = s.released := by
  unfold recordFailure; (repeat' split) <;> simp
@[simp] theorem recordFailure_now (r : FailureRecord) (s : State) : (recordFailure r s).now = s.now := by
  unfold recordFailure; (repeat' split) <;> simp
@[simp] theorem recordFailure_peers (r : FailureRecord) (s : State) : (recordFailure r s).peers = s.peers := by
  unfold recordFailure; (repeat' split) <;> simp
@[simp] theorem recordFailure_refusedTimer (r : FailureRecord) (s : State) : (recordFailure r s).refusedTimer = s.refusedTimer := by
  unfold recordFailure; (repeat' split) <;> simp
@[simp] theorem recordFailure_lamp (r : FailureRecord) (s : State) : (recordFailure r s).lamp = s.lamp := by
  unfold recordFailure; (repeat' split) <;> simp
@[simp] theorem recordFailure_wear (r : FailureRecord) (s : State) : (recordFailure r s).wear = s.wear := by
  unfold recordFailure; (repeat' split) <;> simp
@[simp] theorem recordFailure_router (r : FailureRecord) (s : State) : (recordFailure r s).router = s.router := by
  unfold recordFailure; (repeat' split) <;> simp
@[simp] theorem recordFailure_geometry (r : FailureRecord) (s : State) : (recordFailure r s).geometry = s.geometry := by
  unfold recordFailure; (repeat' split) <;> simp
@[simp] theorem recordFailure_lockout (r : FailureRecord) (s : State) : (recordFailure r s).lockout = s.lockout := by
  unfold recordFailure; (repeat' split) <;> simp
@[simp] theorem recordFailure_schedule (r : FailureRecord) (s : State) : (recordFailure r s).schedule = s.schedule := by
  unfold recordFailure; (repeat' split) <;> simp
@[simp] theorem recordFailure_duty (r : FailureRecord) (s : State) : (recordFailure r s).duty = s.duty := by
  unfold recordFailure; (repeat' split) <;> simp
@[simp] theorem recordFailure_store (r : FailureRecord) (s : State) : (recordFailure r s).store = s.store := by
  unfold recordFailure; (repeat' split) <;> simp

@[simp] theorem offerMarked_pending (f : Frame) (m : Bool) (s : State) : (offerMarked f m s).pending = s.pending := by
  unfold offerMarked; (repeat' split) <;> simp
@[simp] theorem offerMarked_released (f : Frame) (m : Bool) (s : State) : (offerMarked f m s).released = s.released := by
  unfold offerMarked; (repeat' split) <;> simp
@[simp] theorem offerMarked_now (f : Frame) (m : Bool) (s : State) : (offerMarked f m s).now = s.now := by
  unfold offerMarked; (repeat' split) <;> simp
@[simp] theorem offerMarked_peers (f : Frame) (m : Bool) (s : State) : (offerMarked f m s).peers = s.peers := by
  unfold offerMarked; (repeat' split) <;> simp
@[simp] theorem offerMarked_refusedTimer (f : Frame) (m : Bool) (s : State) : (offerMarked f m s).refusedTimer = s.refusedTimer := by
  unfold offerMarked; (repeat' split) <;> simp
@[simp] theorem offerMarked_lamp (f : Frame) (m : Bool) (s : State) : (offerMarked f m s).lamp = s.lamp := by
  unfold offerMarked; (repeat' split) <;> simp
@[simp] theorem offerMarked_wear (f : Frame) (m : Bool) (s : State) : (offerMarked f m s).wear = s.wear := by
  unfold offerMarked; (repeat' split) <;> simp
@[simp] theorem offerMarked_router (f : Frame) (m : Bool) (s : State) : (offerMarked f m s).router = s.router := by
  unfold offerMarked; (repeat' split) <;> simp
@[simp] theorem offerMarked_geometry (f : Frame) (m : Bool) (s : State) : (offerMarked f m s).geometry = s.geometry := by
  unfold offerMarked; (repeat' split) <;> simp
@[simp] theorem offerMarked_lockout (f : Frame) (m : Bool) (s : State) : (offerMarked f m s).lockout = s.lockout := by
  unfold offerMarked; (repeat' split) <;> simp
@[simp] theorem offerMarked_schedule (f : Frame) (m : Bool) (s : State) : (offerMarked f m s).schedule = s.schedule := by
  unfold offerMarked; (repeat' split) <;> simp
@[simp] theorem offerMarked_duty (f : Frame) (m : Bool) (s : State) : (offerMarked f m s).duty = s.duty := by
  unfold offerMarked; (repeat' split) <;> simp
@[simp] theorem offerMarked_store (f : Frame) (m : Bool) (s : State) : (offerMarked f m s).store = s.store := by
  unfold offerMarked; (repeat' split) <;> simp

@[simp] theorem offerFrame_pending (f : Frame) (s : State) : (offerFrame f s).pending = s.pending := by simp [offerFrame]
@[simp] theorem offerFrame_released (f : Frame) (s : State) : (offerFrame f s).released = s.released := by simp [offerFrame]
@[simp] theorem offerFrame_now (f : Frame) (s : State) : (offerFrame f s).now = s.now := by simp [offerFrame]
@[simp] theorem offerFrame_peers (f : Frame) (s : State) : (offerFrame f s).peers = s.peers := by simp [offerFrame]
@[simp] theorem offerFrame_refusedTimer (f : Frame) (s : State) : (offerFrame f s).refusedTimer = s.refusedTimer := by simp [offerFrame]
@[simp] theorem offerFrame_lamp (f : Frame) (s : State) : (offerFrame f s).lamp = s.lamp := by simp [offerFrame]
@[simp] theorem offerFrame_wear (f : Frame) (s : State) : (offerFrame f s).wear = s.wear := by simp [offerFrame]
@[simp] theorem offerFrame_router (f : Frame) (s : State) : (offerFrame f s).router = s.router := by simp [offerFrame]
@[simp] theorem offerFrame_geometry (f : Frame) (s : State) : (offerFrame f s).geometry = s.geometry := by simp [offerFrame]
@[simp] theorem offerFrame_lockout (f : Frame) (s : State) : (offerFrame f s).lockout = s.lockout := by simp [offerFrame]
@[simp] theorem offerFrame_schedule (f : Frame) (s : State) : (offerFrame f s).schedule = s.schedule := by simp [offerFrame]
@[simp] theorem offerFrame_duty (f : Frame) (s : State) : (offerFrame f s).duty = s.duty := by simp [offerFrame]
@[simp] theorem offerFrame_store (f : Frame) (s : State) : (offerFrame f s).store = s.store := by simp [offerFrame]

@[simp] theorem offerBeacon_pending (p : List Byte) (s : State) : (offerBeacon p s).pending = s.pending := by
  unfold offerBeacon; (repeat' split) <;> simp
@[simp] theorem offerBeacon_released (p : List Byte) (s : State) : (offerBeacon p s).released = s.released := by
  unfold offerBeacon; (repeat' split) <;> simp
@[simp] theorem offerBeacon_now (p : List Byte) (s : State) : (offerBeacon p s).now = s.now := by
  unfold offerBeacon; (repeat' split) <;> simp
@[simp] theorem offerBeacon_peers (p : List Byte) (s : State) : (offerBeacon p s).peers = s.peers := by
  unfold offerBeacon; (repeat' split) <;> simp
@[simp] theorem offerBeacon_refusedTimer (p : List Byte) (s : State) : (offerBeacon p s).refusedTimer = s.refusedTimer := by
  unfold offerBeacon; (repeat' split) <;> simp
@[simp] theorem offerBeacon_lamp (p : List Byte) (s : State) : (offerBeacon p s).lamp = s.lamp := by
  unfold offerBeacon; (repeat' split) <;> simp
@[simp] theorem offerBeacon_wear (p : List Byte) (s : State) : (offerBeacon p s).wear = s.wear := by
  unfold offerBeacon; (repeat' split) <;> simp
@[simp] theorem offerBeacon_router (p : List Byte) (s : State) : (offerBeacon p s).router = s.router := by
  unfold offerBeacon; (repeat' split) <;> simp
@[simp] theorem offerBeacon_geometry (p : List Byte) (s : State) : (offerBeacon p s).geometry = s.geometry := by
  unfold offerBeacon; (repeat' split) <;> simp
@[simp] theorem offerBeacon_lockout (p : List Byte) (s : State) : (offerBeacon p s).lockout = s.lockout := by
  unfold offerBeacon; (repeat' split) <;> simp
@[simp] theorem offerBeacon_schedule (p : List Byte) (s : State) : (offerBeacon p s).schedule = s.schedule := by
  unfold offerBeacon; (repeat' split) <;> simp
@[simp] theorem offerBeacon_duty (p : List Byte) (s : State) : (offerBeacon p s).duty = s.duty := by
  unfold offerBeacon; (repeat' split) <;> simp
@[simp] theorem offerBeacon_conditions (p : List Byte) (s : State) : (offerBeacon p s).conditions = s.conditions := by
  unfold offerBeacon; (repeat' split) <;> simp
@[simp] theorem offerBeacon_store (p : List Byte) (s : State) : (offerBeacon p s).store = s.store := by
  unfold offerBeacon; (repeat' split) <;> simp

@[simp] theorem offerOwnBeacon_pending (s : State) : (offerOwnBeacon s).pending = s.pending := by simp [offerOwnBeacon]
@[simp] theorem offerOwnBeacon_released (s : State) : (offerOwnBeacon s).released = s.released := by simp [offerOwnBeacon]
@[simp] theorem offerOwnBeacon_now (s : State) : (offerOwnBeacon s).now = s.now := by simp [offerOwnBeacon]
@[simp] theorem offerOwnBeacon_refusedTimer (s : State) : (offerOwnBeacon s).refusedTimer = s.refusedTimer := by simp [offerOwnBeacon]
@[simp] theorem offerOwnBeacon_lamp (s : State) : (offerOwnBeacon s).lamp = s.lamp := by simp [offerOwnBeacon]
@[simp] theorem offerOwnBeacon_wear (s : State) : (offerOwnBeacon s).wear = s.wear := by simp [offerOwnBeacon]
@[simp] theorem offerOwnBeacon_router (s : State) : (offerOwnBeacon s).router = s.router := by simp [offerOwnBeacon]
@[simp] theorem offerOwnBeacon_geometry (s : State) : (offerOwnBeacon s).geometry = s.geometry := by simp [offerOwnBeacon]
@[simp] theorem offerOwnBeacon_lockout (s : State) : (offerOwnBeacon s).lockout = s.lockout := by simp [offerOwnBeacon]
@[simp] theorem offerOwnBeacon_schedule (s : State) : (offerOwnBeacon s).schedule = s.schedule := by simp [offerOwnBeacon]
@[simp] theorem offerOwnBeacon_duty (s : State) : (offerOwnBeacon s).duty = s.duty := by simp [offerOwnBeacon]
@[simp] theorem offerOwnBeacon_conditions (s : State) : (offerOwnBeacon s).conditions = s.conditions := by simp [offerOwnBeacon]
@[simp] theorem offerOwnBeacon_store (s : State) : (offerOwnBeacon s).store = s.store := by simp [offerOwnBeacon]

@[simp] theorem enterClash_pending (s : State) : (enterClash s).pending = s.pending := by
  unfold enterClash; (repeat' split) <;> simp
@[simp] theorem enterClash_released (s : State) : (enterClash s).released = s.released := by
  unfold enterClash; (repeat' split) <;> simp
@[simp] theorem enterClash_now (s : State) : (enterClash s).now = s.now := by
  unfold enterClash; (repeat' split) <;> simp
@[simp] theorem enterClash_refusedTimer (s : State) : (enterClash s).refusedTimer = s.refusedTimer := by
  unfold enterClash; (repeat' split) <;> simp
@[simp] theorem enterClash_lamp (s : State) : (enterClash s).lamp = s.lamp := by
  unfold enterClash; (repeat' split) <;> simp
@[simp] theorem enterClash_wear (s : State) : (enterClash s).wear = s.wear := by
  unfold enterClash; (repeat' split) <;> simp
@[simp] theorem enterClash_router (s : State) : (enterClash s).router = s.router := by
  unfold enterClash; (repeat' split) <;> simp
@[simp] theorem enterClash_geometry (s : State) : (enterClash s).geometry = s.geometry := by
  unfold enterClash; (repeat' split) <;> simp
@[simp] theorem enterClash_lockout (s : State) : (enterClash s).lockout = s.lockout := by
  unfold enterClash; (repeat' split) <;> simp
@[simp] theorem enterClash_schedule (s : State) : (enterClash s).schedule = s.schedule := by
  unfold enterClash; (repeat' split) <;> simp
@[simp] theorem enterClash_duty (s : State) : (enterClash s).duty = s.duty := by
  unfold enterClash; (repeat' split) <;> simp
@[simp] theorem enterClash_conditions (s : State) : (enterClash s).conditions = s.conditions := by
  unfold enterClash; (repeat' split) <;> simp
@[simp] theorem enterClash_store (s : State) : (enterClash s).store = s.store := by
  unfold enterClash; (repeat' split) <;> simp

@[simp] theorem latch_pending (c : Condition) (d : Nat) (s : State) : (latch c d s).pending = s.pending := by
  unfold latch; (repeat' split) <;> simp
@[simp] theorem latch_released (c : Condition) (d : Nat) (s : State) : (latch c d s).released = s.released := by
  unfold latch; (repeat' split) <;> simp
@[simp] theorem latch_now (c : Condition) (d : Nat) (s : State) : (latch c d s).now = s.now := by
  unfold latch; (repeat' split) <;> simp
@[simp] theorem latch_peers (c : Condition) (d : Nat) (s : State) : (latch c d s).peers = s.peers := by
  unfold latch; (repeat' split) <;> simp
@[simp] theorem latch_refusedTimer (c : Condition) (d : Nat) (s : State) : (latch c d s).refusedTimer = s.refusedTimer := by
  unfold latch; (repeat' split) <;> simp
@[simp] theorem latch_lamp (c : Condition) (d : Nat) (s : State) : (latch c d s).lamp = s.lamp := by
  unfold latch; (repeat' split) <;> simp
@[simp] theorem latch_wear (c : Condition) (d : Nat) (s : State) : (latch c d s).wear = s.wear := by
  unfold latch; (repeat' split) <;> simp
@[simp] theorem latch_router (c : Condition) (d : Nat) (s : State) : (latch c d s).router = s.router := by
  unfold latch; (repeat' split) <;> simp
@[simp] theorem latch_geometry (c : Condition) (d : Nat) (s : State) : (latch c d s).geometry = s.geometry := by
  unfold latch; (repeat' split) <;> simp
@[simp] theorem latch_lockout (c : Condition) (d : Nat) (s : State) : (latch c d s).lockout = s.lockout := by
  unfold latch; (repeat' split) <;> simp
@[simp] theorem latch_schedule (c : Condition) (d : Nat) (s : State) : (latch c d s).schedule = s.schedule := by
  unfold latch; (repeat' split) <;> simp
@[simp] theorem latch_duty (c : Condition) (d : Nat) (s : State) : (latch c d s).duty = s.duty := by
  unfold latch; (repeat' split) <;> simp
@[simp] theorem latch_store (c : Condition) (d : Nat) (s : State) : (latch c d s).store = s.store := by
  unfold latch; (repeat' split) <;> simp

@[simp] theorem clearCondition_pending (c : Condition) (s : State) : (clearCondition c s).pending = s.pending := by
  unfold clearCondition; (repeat' split) <;> simp
@[simp] theorem clearCondition_released (c : Condition) (s : State) : (clearCondition c s).released = s.released := by
  unfold clearCondition; (repeat' split) <;> simp
@[simp] theorem clearCondition_now (c : Condition) (s : State) : (clearCondition c s).now = s.now := by
  unfold clearCondition; (repeat' split) <;> simp
@[simp] theorem clearCondition_peers (c : Condition) (s : State) : (clearCondition c s).peers = s.peers := by
  unfold clearCondition; (repeat' split) <;> simp
@[simp] theorem clearCondition_refusedTimer (c : Condition) (s : State) : (clearCondition c s).refusedTimer = s.refusedTimer := by
  unfold clearCondition; (repeat' split) <;> simp
@[simp] theorem clearCondition_lamp (c : Condition) (s : State) : (clearCondition c s).lamp = s.lamp := by
  unfold clearCondition; (repeat' split) <;> simp
@[simp] theorem clearCondition_wear (c : Condition) (s : State) : (clearCondition c s).wear = s.wear := by
  unfold clearCondition; (repeat' split) <;> simp
@[simp] theorem clearCondition_router (c : Condition) (s : State) : (clearCondition c s).router = s.router := by
  unfold clearCondition; (repeat' split) <;> simp
@[simp] theorem clearCondition_geometry (c : Condition) (s : State) : (clearCondition c s).geometry = s.geometry := by
  unfold clearCondition; (repeat' split) <;> simp
@[simp] theorem clearCondition_lockout (c : Condition) (s : State) : (clearCondition c s).lockout = s.lockout := by
  unfold clearCondition; (repeat' split) <;> simp
@[simp] theorem clearCondition_schedule (c : Condition) (s : State) : (clearCondition c s).schedule = s.schedule := by
  unfold clearCondition; (repeat' split) <;> simp
@[simp] theorem clearCondition_duty (c : Condition) (s : State) : (clearCondition c s).duty = s.duty := by
  unfold clearCondition; (repeat' split) <;> simp
@[simp] theorem clearCondition_store (c : Condition) (s : State) : (clearCondition c s).store = s.store := by
  unfold clearCondition; (repeat' split) <;> simp

@[simp] theorem mark_pending (r : RecordId) (s : State) : (mark r s).pending = s.pending := by
  unfold mark; (repeat' split) <;> simp
@[simp] theorem mark_released (r : RecordId) (s : State) : (mark r s).released = s.released := by
  unfold mark; (repeat' split) <;> simp
@[simp] theorem mark_now (r : RecordId) (s : State) : (mark r s).now = s.now := by
  unfold mark; (repeat' split) <;> simp
@[simp] theorem mark_line (r : RecordId) (s : State) : (mark r s).line = s.line := by
  unfold mark; (repeat' split) <;> simp
@[simp] theorem mark_peers (r : RecordId) (s : State) : (mark r s).peers = s.peers := by
  unfold mark; (repeat' split) <;> simp
@[simp] theorem mark_refusedTimer (r : RecordId) (s : State) : (mark r s).refusedTimer = s.refusedTimer := by
  unfold mark; (repeat' split) <;> simp
@[simp] theorem mark_lamp (r : RecordId) (s : State) : (mark r s).lamp = s.lamp := by
  unfold mark; (repeat' split) <;> simp
@[simp] theorem mark_wear (r : RecordId) (s : State) : (mark r s).wear = s.wear := by
  unfold mark; (repeat' split) <;> simp
@[simp] theorem mark_router (r : RecordId) (s : State) : (mark r s).router = s.router := by
  unfold mark; (repeat' split) <;> simp
@[simp] theorem mark_geometry (r : RecordId) (s : State) : (mark r s).geometry = s.geometry := by
  unfold mark; (repeat' split) <;> simp
@[simp] theorem mark_lockout (r : RecordId) (s : State) : (mark r s).lockout = s.lockout := by
  unfold mark; (repeat' split) <;> simp
@[simp] theorem mark_schedule (r : RecordId) (s : State) : (mark r s).schedule = s.schedule := by
  unfold mark; (repeat' split) <;> simp
@[simp] theorem mark_duty (r : RecordId) (s : State) : (mark r s).duty = s.duty := by
  unfold mark; (repeat' split) <;> simp
@[simp] theorem mark_conditions (r : RecordId) (s : State) : (mark r s).conditions = s.conditions := by
  unfold mark; (repeat' split) <;> simp

@[simp] theorem beginWrite_pending (s : State) : (beginWrite s).pending = s.pending := by
  unfold beginWrite; (repeat' split) <;> simp
@[simp] theorem beginWrite_released (s : State) : (beginWrite s).released = s.released := by
  unfold beginWrite; (repeat' split) <;> simp
@[simp] theorem beginWrite_now (s : State) : (beginWrite s).now = s.now := by
  unfold beginWrite; (repeat' split) <;> simp
@[simp] theorem beginWrite_line (s : State) : (beginWrite s).line = s.line := by
  unfold beginWrite; (repeat' split) <;> simp
@[simp] theorem beginWrite_peers (s : State) : (beginWrite s).peers = s.peers := by
  unfold beginWrite; (repeat' split) <;> simp
@[simp] theorem beginWrite_refusedTimer (s : State) : (beginWrite s).refusedTimer = s.refusedTimer := by
  unfold beginWrite; (repeat' split) <;> simp
@[simp] theorem beginWrite_lamp (s : State) : (beginWrite s).lamp = s.lamp := by
  unfold beginWrite; (repeat' split) <;> simp
@[simp] theorem beginWrite_wear (s : State) : (beginWrite s).wear = s.wear := by
  unfold beginWrite; (repeat' split) <;> simp
@[simp] theorem beginWrite_router (s : State) : (beginWrite s).router = s.router := by
  unfold beginWrite; (repeat' split) <;> simp
@[simp] theorem beginWrite_geometry (s : State) : (beginWrite s).geometry = s.geometry := by
  unfold beginWrite; (repeat' split) <;> simp
@[simp] theorem beginWrite_lockout (s : State) : (beginWrite s).lockout = s.lockout := by
  unfold beginWrite; (repeat' split) <;> simp
@[simp] theorem beginWrite_schedule (s : State) : (beginWrite s).schedule = s.schedule := by
  unfold beginWrite; (repeat' split) <;> simp
@[simp] theorem beginWrite_duty (s : State) : (beginWrite s).duty = s.duty := by
  unfold beginWrite; (repeat' split) <;> simp
@[simp] theorem beginWrite_conditions (s : State) : (beginWrite s).conditions = s.conditions := by
  unfold beginWrite; (repeat' split) <;> simp

end Sys2Proof.Machine
end

