-- ==== Sys2Proof/Laws/FrameLamp.lean ====
section
/-! SUPPORT. Which blocks each operation of Machine/Lamp.lean leaves as they are. -/

namespace Sys2Proof.Machine

@[simp] theorem extinction_pending (s : State) : (extinction s).pending = s.pending := by simp [extinction]
@[simp] theorem extinction_released (s : State) : (extinction s).released = s.released := by simp [extinction]
@[simp] theorem extinction_now (s : State) : (extinction s).now = s.now := by simp [extinction]
@[simp] theorem extinction_line (s : State) : (extinction s).line = s.line := by simp [extinction]
@[simp] theorem extinction_peers (s : State) : (extinction s).peers = s.peers := by simp [extinction]
@[simp] theorem extinction_refusedTimer (s : State) : (extinction s).refusedTimer = s.refusedTimer := by simp [extinction]
@[simp] theorem extinction_lamp (s : State) : (extinction s).lamp = s.lamp := by simp [extinction]
@[simp] theorem extinction_router (s : State) : (extinction s).router = s.router := by simp [extinction]
@[simp] theorem extinction_geometry (s : State) : (extinction s).geometry = s.geometry := by simp [extinction]
@[simp] theorem extinction_lockout (s : State) : (extinction s).lockout = s.lockout := by simp [extinction]
@[simp] theorem extinction_schedule (s : State) : (extinction s).schedule = s.schedule := by simp [extinction]
@[simp] theorem extinction_duty (s : State) : (extinction s).duty = s.duty := by simp [extinction]
@[simp] theorem extinction_conditions (s : State) : (extinction s).conditions = s.conditions := by simp [extinction]

@[simp] theorem enterCooldown_pending (s : State) : (enterCooldown s).pending = s.pending := by
  unfold enterCooldown; (repeat' split) <;> simp
@[simp] theorem enterCooldown_released (s : State) : (enterCooldown s).released = s.released := by
  unfold enterCooldown; (repeat' split) <;> simp
@[simp] theorem enterCooldown_now (s : State) : (enterCooldown s).now = s.now := by
  unfold enterCooldown; (repeat' split) <;> simp
@[simp] theorem enterCooldown_line (s : State) : (enterCooldown s).line = s.line := by
  unfold enterCooldown; (repeat' split) <;> simp
@[simp] theorem enterCooldown_peers (s : State) : (enterCooldown s).peers = s.peers := by
  unfold enterCooldown; (repeat' split) <;> simp
@[simp] theorem enterCooldown_refusedTimer (s : State) : (enterCooldown s).refusedTimer = s.refusedTimer := by
  unfold enterCooldown; (repeat' split) <;> simp
@[simp] theorem enterCooldown_router (s : State) : (enterCooldown s).router = s.router := by
  unfold enterCooldown; (repeat' split) <;> simp
@[simp] theorem enterCooldown_geometry (s : State) : (enterCooldown s).geometry = s.geometry := by
  unfold enterCooldown; (repeat' split) <;> simp
@[simp] theorem enterCooldown_lockout (s : State) : (enterCooldown s).lockout = s.lockout := by
  unfold enterCooldown; (repeat' split) <;> simp
@[simp] theorem enterCooldown_schedule (s : State) : (enterCooldown s).schedule = s.schedule := by
  unfold enterCooldown; (repeat' split) <;> simp
@[simp] theorem enterCooldown_duty (s : State) : (enterCooldown s).duty = s.duty := by
  unfold enterCooldown; (repeat' split) <;> simp
@[simp] theorem enterCooldown_conditions (s : State) : (enterCooldown s).conditions = s.conditions := by
  unfold enterCooldown; (repeat' split) <;> simp

@[simp] theorem enterPreheat_pending (c : LitCause) (s : State) : (enterPreheat c s).pending = s.pending := rfl
@[simp] theorem enterPreheat_released (c : LitCause) (s : State) : (enterPreheat c s).released = s.released := rfl
@[simp] theorem enterPreheat_now (c : LitCause) (s : State) : (enterPreheat c s).now = s.now := rfl
@[simp] theorem enterPreheat_line (c : LitCause) (s : State) : (enterPreheat c s).line = s.line := rfl
@[simp] theorem enterPreheat_peers (c : LitCause) (s : State) : (enterPreheat c s).peers = s.peers := rfl
@[simp] theorem enterPreheat_refusedTimer (c : LitCause) (s : State) : (enterPreheat c s).refusedTimer = s.refusedTimer := rfl
@[simp] theorem enterPreheat_wear (c : LitCause) (s : State) : (enterPreheat c s).wear = s.wear := rfl
@[simp] theorem enterPreheat_router (c : LitCause) (s : State) : (enterPreheat c s).router = s.router := rfl
@[simp] theorem enterPreheat_geometry (c : LitCause) (s : State) : (enterPreheat c s).geometry = s.geometry := rfl
@[simp] theorem enterPreheat_lockout (c : LitCause) (s : State) : (enterPreheat c s).lockout = s.lockout := rfl
@[simp] theorem enterPreheat_schedule (c : LitCause) (s : State) : (enterPreheat c s).schedule = s.schedule := rfl
@[simp] theorem enterPreheat_duty (c : LitCause) (s : State) : (enterPreheat c s).duty = s.duty := rfl
@[simp] theorem enterPreheat_conditions (c : LitCause) (s : State) : (enterPreheat c s).conditions = s.conditions := rfl
@[simp] theorem enterPreheat_store (c : LitCause) (s : State) : (enterPreheat c s).store = s.store := rfl

@[simp] theorem restExpired_pending (s : State) : (restExpired s).pending = s.pending := by
  unfold restExpired; (repeat' split) <;> simp
@[simp] theorem restExpired_released (s : State) : (restExpired s).released = s.released := by
  unfold restExpired; (repeat' split) <;> simp
@[simp] theorem restExpired_now (s : State) : (restExpired s).now = s.now := by
  unfold restExpired; (repeat' split) <;> simp
@[simp] theorem restExpired_line (s : State) : (restExpired s).line = s.line := by
  unfold restExpired; (repeat' split) <;> simp
@[simp] theorem restExpired_peers (s : State) : (restExpired s).peers = s.peers := by
  unfold restExpired; (repeat' split) <;> simp
@[simp] theorem restExpired_refusedTimer (s : State) : (restExpired s).refusedTimer = s.refusedTimer := by
  unfold restExpired; (repeat' split) <;> simp
@[simp] theorem restExpired_router (s : State) : (restExpired s).router = s.router := by
  unfold restExpired; (repeat' split) <;> simp
@[simp] theorem restExpired_geometry (s : State) : (restExpired s).geometry = s.geometry := by
  unfold restExpired; (repeat' split) <;> simp
@[simp] theorem restExpired_lockout (s : State) : (restExpired s).lockout = s.lockout := by
  unfold restExpired; (repeat' split) <;> simp
@[simp] theorem restExpired_schedule (s : State) : (restExpired s).schedule = s.schedule := by
  unfold restExpired; (repeat' split) <;> simp
@[simp] theorem restExpired_duty (s : State) : (restExpired s).duty = s.duty := by
  unfold restExpired; (repeat' split) <;> simp
@[simp] theorem restExpired_conditions (s : State) : (restExpired s).conditions = s.conditions := by
  unfold restExpired; (repeat' split) <;> simp

@[simp] theorem judgeLifeLow_pending (s : State) : (judgeLifeLow s).pending = s.pending := by
  unfold judgeLifeLow; (repeat' split) <;> simp
@[simp] theorem judgeLifeLow_released (s : State) : (judgeLifeLow s).released = s.released := by
  unfold judgeLifeLow; (repeat' split) <;> simp
@[simp] theorem judgeLifeLow_now (s : State) : (judgeLifeLow s).now = s.now := by
  unfold judgeLifeLow; (repeat' split) <;> simp
@[simp] theorem judgeLifeLow_peers (s : State) : (judgeLifeLow s).peers = s.peers := by
  unfold judgeLifeLow; (repeat' split) <;> simp
@[simp] theorem judgeLifeLow_refusedTimer (s : State) : (judgeLifeLow s).refusedTimer = s.refusedTimer := by
  unfold judgeLifeLow; (repeat' split) <;> simp
@[simp] theorem judgeLifeLow_lamp (s : State) : (judgeLifeLow s).lamp = s.lamp := by
  unfold judgeLifeLow; (repeat' split) <;> simp
@[simp] theorem judgeLifeLow_wear (s : State) : (judgeLifeLow s).wear = s.wear := by
  unfold judgeLifeLow; (repeat' split) <;> simp
@[simp] theorem judgeLifeLow_router (s : State) : (judgeLifeLow s).router = s.router := by
  unfold judgeLifeLow; (repeat' split) <;> simp
@[simp] theorem judgeLifeLow_geometry (s : State) : (judgeLifeLow s).geometry = s.geometry := by
  unfold judgeLifeLow; (repeat' split) <;> simp
@[simp] theorem judgeLifeLow_lockout (s : State) : (judgeLifeLow s).lockout = s.lockout := by
  unfold judgeLifeLow; (repeat' split) <;> simp
@[simp] theorem judgeLifeLow_schedule (s : State) : (judgeLifeLow s).schedule = s.schedule := by
  unfold judgeLifeLow; (repeat' split) <;> simp
@[simp] theorem judgeLifeLow_duty (s : State) : (judgeLifeLow s).duty = s.duty := by
  unfold judgeLifeLow; (repeat' split) <;> simp
@[simp] theorem judgeLifeLow_store (s : State) : (judgeLifeLow s).store = s.store := by
  unfold judgeLifeLow; (repeat' split) <;> simp

@[simp] theorem afterCharge_pending (s : State) : (afterCharge s).pending = s.pending := by simp [afterCharge]
@[simp] theorem afterCharge_released (s : State) : (afterCharge s).released = s.released := by simp [afterCharge]
@[simp] theorem afterCharge_now (s : State) : (afterCharge s).now = s.now := by simp [afterCharge]
@[simp] theorem afterCharge_peers (s : State) : (afterCharge s).peers = s.peers := by simp [afterCharge]
@[simp] theorem afterCharge_refusedTimer (s : State) : (afterCharge s).refusedTimer = s.refusedTimer := by simp [afterCharge]
@[simp] theorem afterCharge_router (s : State) : (afterCharge s).router = s.router := by simp [afterCharge]
@[simp] theorem afterCharge_geometry (s : State) : (afterCharge s).geometry = s.geometry := by simp [afterCharge]
@[simp] theorem afterCharge_lockout (s : State) : (afterCharge s).lockout = s.lockout := by simp [afterCharge]
@[simp] theorem afterCharge_schedule (s : State) : (afterCharge s).schedule = s.schedule := by simp [afterCharge]
@[simp] theorem afterCharge_duty (s : State) : (afterCharge s).duty = s.duty := by simp [afterCharge]

@[simp] theorem chargeIgnition_pending (s : State) : (chargeIgnition s).pending = s.pending := by simp [chargeIgnition]
@[simp] theorem chargeIgnition_released (s : State) : (chargeIgnition s).released = s.released := by simp [chargeIgnition]
@[simp] theorem chargeIgnition_now (s : State) : (chargeIgnition s).now = s.now := by simp [chargeIgnition]
@[simp] theorem chargeIgnition_peers (s : State) : (chargeIgnition s).peers = s.peers := by simp [chargeIgnition]
@[simp] theorem chargeIgnition_refusedTimer (s : State) : (chargeIgnition s).refusedTimer = s.refusedTimer := by simp [chargeIgnition]
@[simp] theorem chargeIgnition_router (s : State) : (chargeIgnition s).router = s.router := by simp [chargeIgnition]
@[simp] theorem chargeIgnition_geometry (s : State) : (chargeIgnition s).geometry = s.geometry := by simp [chargeIgnition]
@[simp] theorem chargeIgnition_lockout (s : State) : (chargeIgnition s).lockout = s.lockout := by simp [chargeIgnition]
@[simp] theorem chargeIgnition_schedule (s : State) : (chargeIgnition s).schedule = s.schedule := by simp [chargeIgnition]
@[simp] theorem chargeIgnition_duty (s : State) : (chargeIgnition s).duty = s.duty := by simp [chargeIgnition]

@[simp] theorem chargeFailedAttempt_pending (s : State) : (chargeFailedAttempt s).pending = s.pending := by simp [chargeFailedAttempt]
@[simp] theorem chargeFailedAttempt_released (s : State) : (chargeFailedAttempt s).released = s.released := by simp [chargeFailedAttempt]
@[simp] theorem chargeFailedAttempt_now (s : State) : (chargeFailedAttempt s).now = s.now := by simp [chargeFailedAttempt]
@[simp] theorem chargeFailedAttempt_peers (s : State) : (chargeFailedAttempt s).peers = s.peers := by simp [chargeFailedAttempt]
@[simp] theorem chargeFailedAttempt_refusedTimer (s : State) : (chargeFailedAttempt s).refusedTimer = s.refusedTimer := by simp [chargeFailedAttempt]
@[simp] theorem chargeFailedAttempt_router (s : State) : (chargeFailedAttempt s).router = s.router := by simp [chargeFailedAttempt]
@[simp] theorem chargeFailedAttempt_geometry (s : State) : (chargeFailedAttempt s).geometry = s.geometry := by simp [chargeFailedAttempt]
@[simp] theorem chargeFailedAttempt_lockout (s : State) : (chargeFailedAttempt s).lockout = s.lockout := by simp [chargeFailedAttempt]
@[simp] theorem chargeFailedAttempt_schedule (s : State) : (chargeFailedAttempt s).schedule = s.schedule := by simp [chargeFailedAttempt]
@[simp] theorem chargeFailedAttempt_duty (s : State) : (chargeFailedAttempt s).duty = s.duty := by simp [chargeFailedAttempt]

@[simp] theorem ignite_pending (s : State) : (ignite s).pending = s.pending := by simp [ignite]
@[simp] theorem ignite_released (s : State) : (ignite s).released = s.released := by simp [ignite]
@[simp] theorem ignite_now (s : State) : (ignite s).now = s.now := by simp [ignite]
@[simp] theorem ignite_peers (s : State) : (ignite s).peers = s.peers := by simp [ignite]
@[simp] theorem ignite_refusedTimer (s : State) : (ignite s).refusedTimer = s.refusedTimer := by simp [ignite]
@[simp] theorem ignite_router (s : State) : (ignite s).router = s.router := by simp [ignite]
@[simp] theorem ignite_geometry (s : State) : (ignite s).geometry = s.geometry := by simp [ignite]
@[simp] theorem ignite_lockout (s : State) : (ignite s).lockout = s.lockout := by simp [ignite]
@[simp] theorem ignite_schedule (s : State) : (ignite s).schedule = s.schedule := by simp [ignite]
@[simp] theorem ignite_duty (s : State) : (ignite s).duty = s.duty := by simp [ignite]

@[simp] theorem beginAttempt_pending (s : State) : (beginAttempt s).pending = s.pending := by
  unfold beginAttempt; (repeat' split) <;> simp
@[simp] theorem beginAttempt_released (s : State) : (beginAttempt s).released = s.released := by
  unfold beginAttempt; (repeat' split) <;> simp
@[simp] theorem beginAttempt_now (s : State) : (beginAttempt s).now = s.now := by
  unfold beginAttempt; (repeat' split) <;> simp
@[simp] theorem beginAttempt_peers (s : State) : (beginAttempt s).peers = s.peers := by
  unfold beginAttempt; (repeat' split) <;> simp
@[simp] theorem beginAttempt_refusedTimer (s : State) : (beginAttempt s).refusedTimer = s.refusedTimer := by
  unfold beginAttempt; (repeat' split) <;> simp
@[simp] theorem beginAttempt_router (s : State) : (beginAttempt s).router = s.router := by
  unfold beginAttempt; (repeat' split) <;> simp
@[simp] theorem beginAttempt_geometry (s : State) : (beginAttempt s).geometry = s.geometry := by
  unfold beginAttempt; (repeat' split) <;> simp
@[simp] theorem beginAttempt_lockout (s : State) : (beginAttempt s).lockout = s.lockout := by
  unfold beginAttempt; (repeat' split) <;> simp
@[simp] theorem beginAttempt_schedule (s : State) : (beginAttempt s).schedule = s.schedule := by
  unfold beginAttempt; (repeat' split) <;> simp
@[simp] theorem beginAttempt_duty (s : State) : (beginAttempt s).duty = s.duty := by
  unfold beginAttempt; (repeat' split) <;> simp

@[simp] theorem strikeFails_pending (s : State) : (strikeFails s).pending = s.pending := by simp [strikeFails]
@[simp] theorem strikeFails_released (s : State) : (strikeFails s).released = s.released := by simp [strikeFails]
@[simp] theorem strikeFails_now (s : State) : (strikeFails s).now = s.now := by simp [strikeFails]
@[simp] theorem strikeFails_peers (s : State) : (strikeFails s).peers = s.peers := by simp [strikeFails]
@[simp] theorem strikeFails_refusedTimer (s : State) : (strikeFails s).refusedTimer = s.refusedTimer := by simp [strikeFails]
@[simp] theorem strikeFails_router (s : State) : (strikeFails s).router = s.router := by simp [strikeFails]
@[simp] theorem strikeFails_geometry (s : State) : (strikeFails s).geometry = s.geometry := by simp [strikeFails]
@[simp] theorem strikeFails_lockout (s : State) : (strikeFails s).lockout = s.lockout := by simp [strikeFails]
@[simp] theorem strikeFails_schedule (s : State) : (strikeFails s).schedule = s.schedule := by simp [strikeFails]
@[simp] theorem strikeFails_duty (s : State) : (strikeFails s).duty = s.duty := by simp [strikeFails]

@[simp] theorem clearDeclined_pending (s : State) : (clearDeclined s).pending = s.pending := rfl
@[simp] theorem clearDeclined_released (s : State) : (clearDeclined s).released = s.released := rfl
@[simp] theorem clearDeclined_now (s : State) : (clearDeclined s).now = s.now := rfl
@[simp] theorem clearDeclined_line (s : State) : (clearDeclined s).line = s.line := rfl
@[simp] theorem clearDeclined_peers (s : State) : (clearDeclined s).peers = s.peers := rfl
@[simp] theorem clearDeclined_refusedTimer (s : State) : (clearDeclined s).refusedTimer = s.refusedTimer := rfl
@[simp] theorem clearDeclined_lamp (s : State) : (clearDeclined s).lamp = s.lamp := rfl
@[simp] theorem clearDeclined_wear (s : State) : (clearDeclined s).wear = s.wear := rfl
@[simp] theorem clearDeclined_router (s : State) : (clearDeclined s).router = s.router := rfl
@[simp] theorem clearDeclined_geometry (s : State) : (clearDeclined s).geometry = s.geometry := rfl
@[simp] theorem clearDeclined_lockout (s : State) : (clearDeclined s).lockout = s.lockout := rfl
@[simp] theorem clearDeclined_schedule (s : State) : (clearDeclined s).schedule = s.schedule := rfl
@[simp] theorem clearDeclined_conditions (s : State) : (clearDeclined s).conditions = s.conditions := rfl
@[simp] theorem clearDeclined_store (s : State) : (clearDeclined s).store = s.store := rfl

@[simp] theorem strikeRequest_pending (s : State) : (strikeRequest s).pending = s.pending := by
  unfold strikeRequest; (repeat' split) <;> simp
@[simp] theorem strikeRequest_released (s : State) : (strikeRequest s).released = s.released := by
  unfold strikeRequest; (repeat' split) <;> simp
@[simp] theorem strikeRequest_now (s : State) : (strikeRequest s).now = s.now := by
  unfold strikeRequest; (repeat' split) <;> simp
@[simp] theorem strikeRequest_line (s : State) : (strikeRequest s).line = s.line := by
  unfold strikeRequest; (repeat' split) <;> simp
@[simp] theorem strikeRequest_peers (s : State) : (strikeRequest s).peers = s.peers := by
  unfold strikeRequest; (repeat' split) <;> simp
@[simp] theorem strikeRequest_refusedTimer (s : State) : (strikeRequest s).refusedTimer = s.refusedTimer := by
  unfold strikeRequest; (repeat' split) <;> simp
@[simp] theorem strikeRequest_wear (s : State) : (strikeRequest s).wear = s.wear := by
  unfold strikeRequest; (repeat' split) <;> simp
@[simp] theorem strikeRequest_router (s : State) : (strikeRequest s).router = s.router := by
  unfold strikeRequest; (repeat' split) <;> simp
@[simp] theorem strikeRequest_geometry (s : State) : (strikeRequest s).geometry = s.geometry := by
  unfold strikeRequest; (repeat' split) <;> simp
@[simp] theorem strikeRequest_lockout (s : State) : (strikeRequest s).lockout = s.lockout := by
  unfold strikeRequest; (repeat' split) <;> simp
@[simp] theorem strikeRequest_schedule (s : State) : (strikeRequest s).schedule = s.schedule := by
  unfold strikeRequest; (repeat' split) <;> simp
@[simp] theorem strikeRequest_duty (s : State) : (strikeRequest s).duty = s.duty := by
  unfold strikeRequest; (repeat' split) <;> simp
@[simp] theorem strikeRequest_conditions (s : State) : (strikeRequest s).conditions = s.conditions := by
  unfold strikeRequest; (repeat' split) <;> simp
@[simp] theorem strikeRequest_store (s : State) : (strikeRequest s).store = s.store := by
  unfold strikeRequest; (repeat' split) <;> simp

@[simp] theorem release_pending (s : State) : (release s).pending = s.pending := by
  unfold release; (repeat' split) <;> simp
@[simp] theorem release_released (s : State) : (release s).released = s.released := by
  unfold release; (repeat' split) <;> simp
@[simp] theorem release_now (s : State) : (release s).now = s.now := by
  unfold release; (repeat' split) <;> simp
@[simp] theorem release_line (s : State) : (release s).line = s.line := by
  unfold release; (repeat' split) <;> simp
@[simp] theorem release_peers (s : State) : (release s).peers = s.peers := by
  unfold release; (repeat' split) <;> simp
@[simp] theorem release_refusedTimer (s : State) : (release s).refusedTimer = s.refusedTimer := by
  unfold release; (repeat' split) <;> simp
@[simp] theorem release_router (s : State) : (release s).router = s.router := by
  unfold release; (repeat' split) <;> simp
@[simp] theorem release_geometry (s : State) : (release s).geometry = s.geometry := by
  unfold release; (repeat' split) <;> simp
@[simp] theorem release_lockout (s : State) : (release s).lockout = s.lockout := by
  unfold release; (repeat' split) <;> simp
@[simp] theorem release_schedule (s : State) : (release s).schedule = s.schedule := by
  unfold release; (repeat' split) <;> simp
@[simp] theorem release_duty (s : State) : (release s).duty = s.duty := by
  unfold release; (repeat' split) <;> simp
@[simp] theorem release_conditions (s : State) : (release s).conditions = s.conditions := by
  unfold release; (repeat' split) <;> simp

@[simp] theorem requestMode_pending (m : PowerMode) (s : State) : (requestMode m s).pending = s.pending := rfl
@[simp] theorem requestMode_released (m : PowerMode) (s : State) : (requestMode m s).released = s.released := rfl
@[simp] theorem requestMode_now (m : PowerMode) (s : State) : (requestMode m s).now = s.now := rfl
@[simp] theorem requestMode_line (m : PowerMode) (s : State) : (requestMode m s).line = s.line := rfl
@[simp] theorem requestMode_peers (m : PowerMode) (s : State) : (requestMode m s).peers = s.peers := rfl
@[simp] theorem requestMode_refusedTimer (m : PowerMode) (s : State) : (requestMode m s).refusedTimer = s.refusedTimer := rfl
@[simp] theorem requestMode_wear (m : PowerMode) (s : State) : (requestMode m s).wear = s.wear := rfl
@[simp] theorem requestMode_router (m : PowerMode) (s : State) : (requestMode m s).router = s.router := rfl
@[simp] theorem requestMode_geometry (m : PowerMode) (s : State) : (requestMode m s).geometry = s.geometry := rfl
@[simp] theorem requestMode_lockout (m : PowerMode) (s : State) : (requestMode m s).lockout = s.lockout := rfl
@[simp] theorem requestMode_schedule (m : PowerMode) (s : State) : (requestMode m s).schedule = s.schedule := rfl
@[simp] theorem requestMode_duty (m : PowerMode) (s : State) : (requestMode m s).duty = s.duty := rfl
@[simp] theorem requestMode_conditions (m : PowerMode) (s : State) : (requestMode m s).conditions = s.conditions := rfl
@[simp] theorem requestMode_store (m : PowerMode) (s : State) : (requestMode m s).store = s.store := rfl

@[simp] theorem thermalTrip_pending (x : Int) (s : State) : (thermalTrip x s).pending = s.pending := by
  unfold thermalTrip; (repeat' split) <;> simp
@[simp] theorem thermalTrip_released (x : Int) (s : State) : (thermalTrip x s).released = s.released := by
  unfold thermalTrip; (repeat' split) <;> simp
@[simp] theorem thermalTrip_now (x : Int) (s : State) : (thermalTrip x s).now = s.now := by
  unfold thermalTrip; (repeat' split) <;> simp
@[simp] theorem thermalTrip_peers (x : Int) (s : State) : (thermalTrip x s).peers = s.peers := by
  unfold thermalTrip; (repeat' split) <;> simp
@[simp] theorem thermalTrip_refusedTimer (x : Int) (s : State) : (thermalTrip x s).refusedTimer = s.refusedTimer := by
  unfold thermalTrip; (repeat' split) <;> simp
@[simp] theorem thermalTrip_router (x : Int) (s : State) : (thermalTrip x s).router = s.router := by
  unfold thermalTrip; (repeat' split) <;> simp
@[simp] theorem thermalTrip_geometry (x : Int) (s : State) : (thermalTrip x s).geometry = s.geometry := by
  unfold thermalTrip; (repeat' split) <;> simp
@[simp] theorem thermalTrip_lockout (x : Int) (s : State) : (thermalTrip x s).lockout = s.lockout := by
  unfold thermalTrip; (repeat' split) <;> simp
@[simp] theorem thermalTrip_schedule (x : Int) (s : State) : (thermalTrip x s).schedule = s.schedule := by
  unfold thermalTrip; (repeat' split) <;> simp
@[simp] theorem thermalTrip_duty (x : Int) (s : State) : (thermalTrip x s).duty = s.duty := by
  unfold thermalTrip; (repeat' split) <;> simp

@[simp] theorem takeSample_pending (x : Int) (s : State) : (takeSample x s).pending = s.pending := by
  unfold takeSample; (repeat' split) <;> simp
@[simp] theorem takeSample_released (x : Int) (s : State) : (takeSample x s).released = s.released := by
  unfold takeSample; (repeat' split) <;> simp
@[simp] theorem takeSample_now (x : Int) (s : State) : (takeSample x s).now = s.now := by
  unfold takeSample; (repeat' split) <;> simp
@[simp] theorem takeSample_peers (x : Int) (s : State) : (takeSample x s).peers = s.peers := by
  unfold takeSample; (repeat' split) <;> simp
@[simp] theorem takeSample_refusedTimer (x : Int) (s : State) : (takeSample x s).refusedTimer = s.refusedTimer := by
  unfold takeSample; (repeat' split) <;> simp
@[simp] theorem takeSample_router (x : Int) (s : State) : (takeSample x s).router = s.router := by
  unfold takeSample; (repeat' split) <;> simp
@[simp] theorem takeSample_geometry (x : Int) (s : State) : (takeSample x s).geometry = s.geometry := by
  unfold takeSample; (repeat' split) <;> simp
@[simp] theorem takeSample_lockout (x : Int) (s : State) : (takeSample x s).lockout = s.lockout := by
  unfold takeSample; (repeat' split) <;> simp
@[simp] theorem takeSample_schedule (x : Int) (s : State) : (takeSample x s).schedule = s.schedule := by
  unfold takeSample; (repeat' split) <;> simp
@[simp] theorem takeSample_duty (x : Int) (s : State) : (takeSample x s).duty = s.duty := by
  unfold takeSample; (repeat' split) <;> simp

@[simp] theorem lampSecond_pending (s : State) : (lampSecond s).pending = s.pending := by
  simp only [lampSecond, afterCharge_pending]; split <;> simp
@[simp] theorem lampSecond_released (s : State) : (lampSecond s).released = s.released := by
  simp only [lampSecond, afterCharge_released]; split <;> simp
@[simp] theorem lampSecond_now (s : State) : (lampSecond s).now = s.now := by
  simp only [lampSecond, afterCharge_now]; split <;> simp
@[simp] theorem lampSecond_peers (s : State) : (lampSecond s).peers = s.peers := by
  simp only [lampSecond, afterCharge_peers]; split <;> simp
@[simp] theorem lampSecond_refusedTimer (s : State) : (lampSecond s).refusedTimer = s.refusedTimer := by
  simp only [lampSecond, afterCharge_refusedTimer]; split <;> simp
@[simp] theorem lampSecond_router (s : State) : (lampSecond s).router = s.router := by
  simp only [lampSecond, afterCharge_router]; split <;> simp
@[simp] theorem lampSecond_geometry (s : State) : (lampSecond s).geometry = s.geometry := by
  simp only [lampSecond, afterCharge_geometry]; split <;> simp
@[simp] theorem lampSecond_lockout (s : State) : (lampSecond s).lockout = s.lockout := by
  simp only [lampSecond, afterCharge_lockout]; split <;> simp
@[simp] theorem lampSecond_schedule (s : State) : (lampSecond s).schedule = s.schedule := by
  simp only [lampSecond, afterCharge_schedule]; split <;> simp
@[simp] theorem lampSecond_duty (s : State) : (lampSecond s).duty = s.duty := by
  simp only [lampSecond, afterCharge_duty]; split <;> simp

end Sys2Proof.Machine
end

