-- ==== Sys2Proof/Laws/FrameBlocks.lean ====
section
/-! SUPPORT. Which blocks each operation of the other owners leaves as they are. -/

namespace Sys2Proof.Machine

@[simp] theorem beginSwitch_pending (n : Nat) (p : Option Nat) (s : State) : (beginSwitch n p s).pending = s.pending := by
  unfold beginSwitch; (repeat' split) <;> simp
@[simp] theorem beginSwitch_released (n : Nat) (p : Option Nat) (s : State) : (beginSwitch n p s).released = s.released := by
  unfold beginSwitch; (repeat' split) <;> simp
@[simp] theorem beginSwitch_now (n : Nat) (p : Option Nat) (s : State) : (beginSwitch n p s).now = s.now := by
  unfold beginSwitch; (repeat' split) <;> simp
@[simp] theorem beginSwitch_line (n : Nat) (p : Option Nat) (s : State) : (beginSwitch n p s).line = s.line := by
  unfold beginSwitch; (repeat' split) <;> simp
@[simp] theorem beginSwitch_peers (n : Nat) (p : Option Nat) (s : State) : (beginSwitch n p s).peers = s.peers := by
  unfold beginSwitch; (repeat' split) <;> simp
@[simp] theorem beginSwitch_refusedTimer (n : Nat) (p : Option Nat) (s : State) : (beginSwitch n p s).refusedTimer = s.refusedTimer := by
  unfold beginSwitch; (repeat' split) <;> simp
@[simp] theorem beginSwitch_lamp (n : Nat) (p : Option Nat) (s : State) : (beginSwitch n p s).lamp = s.lamp := by
  unfold beginSwitch; (repeat' split) <;> simp
@[simp] theorem beginSwitch_wear (n : Nat) (p : Option Nat) (s : State) : (beginSwitch n p s).wear = s.wear := by
  unfold beginSwitch; (repeat' split) <;> simp
@[simp] theorem beginSwitch_geometry (n : Nat) (p : Option Nat) (s : State) : (beginSwitch n p s).geometry = s.geometry := by
  unfold beginSwitch; (repeat' split) <;> simp
@[simp] theorem beginSwitch_lockout (n : Nat) (p : Option Nat) (s : State) : (beginSwitch n p s).lockout = s.lockout := by
  unfold beginSwitch; (repeat' split) <;> simp
@[simp] theorem beginSwitch_schedule (n : Nat) (p : Option Nat) (s : State) : (beginSwitch n p s).schedule = s.schedule := by
  unfold beginSwitch; (repeat' split) <;> simp
@[simp] theorem beginSwitch_duty (n : Nat) (p : Option Nat) (s : State) : (beginSwitch n p s).duty = s.duty := by
  unfold beginSwitch; (repeat' split) <;> simp
@[simp] theorem beginSwitch_conditions (n : Nat) (p : Option Nat) (s : State) : (beginSwitch n p s).conditions = s.conditions := by
  unfold beginSwitch; (repeat' split) <;> simp
@[simp] theorem beginSwitch_store (n : Nat) (p : Option Nat) (s : State) : (beginSwitch n p s).store = s.store := by
  unfold beginSwitch; (repeat' split) <;> simp

@[simp] theorem beginSearch_pending (p : Option Nat) (s : State) : (beginSearch p s).pending = s.pending := rfl
@[simp] theorem beginSearch_released (p : Option Nat) (s : State) : (beginSearch p s).released = s.released := rfl
@[simp] theorem beginSearch_now (p : Option Nat) (s : State) : (beginSearch p s).now = s.now := rfl
@[simp] theorem beginSearch_line (p : Option Nat) (s : State) : (beginSearch p s).line = s.line := rfl
@[simp] theorem beginSearch_peers (p : Option Nat) (s : State) : (beginSearch p s).peers = s.peers := rfl
@[simp] theorem beginSearch_refusedTimer (p : Option Nat) (s : State) : (beginSearch p s).refusedTimer = s.refusedTimer := rfl
@[simp] theorem beginSearch_lamp (p : Option Nat) (s : State) : (beginSearch p s).lamp = s.lamp := rfl
@[simp] theorem beginSearch_wear (p : Option Nat) (s : State) : (beginSearch p s).wear = s.wear := rfl
@[simp] theorem beginSearch_geometry (p : Option Nat) (s : State) : (beginSearch p s).geometry = s.geometry := rfl
@[simp] theorem beginSearch_lockout (p : Option Nat) (s : State) : (beginSearch p s).lockout = s.lockout := rfl
@[simp] theorem beginSearch_schedule (p : Option Nat) (s : State) : (beginSearch p s).schedule = s.schedule := rfl
@[simp] theorem beginSearch_duty (p : Option Nat) (s : State) : (beginSearch p s).duty = s.duty := rfl
@[simp] theorem beginSearch_conditions (p : Option Nat) (s : State) : (beginSearch p s).conditions = s.conditions := rfl
@[simp] theorem beginSearch_store (p : Option Nat) (s : State) : (beginSearch p s).store = s.store := rfl

@[simp] theorem settleOn_pending (p : Option Nat) (s : State) : (settleOn p s).pending = s.pending := rfl
@[simp] theorem settleOn_released (p : Option Nat) (s : State) : (settleOn p s).released = s.released := rfl
@[simp] theorem settleOn_now (p : Option Nat) (s : State) : (settleOn p s).now = s.now := rfl
@[simp] theorem settleOn_line (p : Option Nat) (s : State) : (settleOn p s).line = s.line := rfl
@[simp] theorem settleOn_peers (p : Option Nat) (s : State) : (settleOn p s).peers = s.peers := rfl
@[simp] theorem settleOn_refusedTimer (p : Option Nat) (s : State) : (settleOn p s).refusedTimer = s.refusedTimer := rfl
@[simp] theorem settleOn_lamp (p : Option Nat) (s : State) : (settleOn p s).lamp = s.lamp := rfl
@[simp] theorem settleOn_wear (p : Option Nat) (s : State) : (settleOn p s).wear = s.wear := rfl
@[simp] theorem settleOn_geometry (p : Option Nat) (s : State) : (settleOn p s).geometry = s.geometry := rfl
@[simp] theorem settleOn_lockout (p : Option Nat) (s : State) : (settleOn p s).lockout = s.lockout := rfl
@[simp] theorem settleOn_schedule (p : Option Nat) (s : State) : (settleOn p s).schedule = s.schedule := rfl
@[simp] theorem settleOn_duty (p : Option Nat) (s : State) : (settleOn p s).duty = s.duty := rfl
@[simp] theorem settleOn_conditions (p : Option Nat) (s : State) : (settleOn p s).conditions = s.conditions := rfl
@[simp] theorem settleOn_store (p : Option Nat) (s : State) : (settleOn p s).store = s.store := rfl

@[simp] theorem takeSelect_pending (n : Nat) (s : State) : (takeSelect n s).1.pending = s.pending := by
  unfold takeSelect; (repeat' split) <;> simp
@[simp] theorem takeSelect_released (n : Nat) (s : State) : (takeSelect n s).1.released = s.released := by
  unfold takeSelect; (repeat' split) <;> simp
@[simp] theorem takeSelect_now (n : Nat) (s : State) : (takeSelect n s).1.now = s.now := by
  unfold takeSelect; (repeat' split) <;> simp
@[simp] theorem takeSelect_line (n : Nat) (s : State) : (takeSelect n s).1.line = s.line := by
  unfold takeSelect; (repeat' split) <;> simp
@[simp] theorem takeSelect_peers (n : Nat) (s : State) : (takeSelect n s).1.peers = s.peers := by
  unfold takeSelect; (repeat' split) <;> simp
@[simp] theorem takeSelect_refusedTimer (n : Nat) (s : State) : (takeSelect n s).1.refusedTimer = s.refusedTimer := by
  unfold takeSelect; (repeat' split) <;> simp
@[simp] theorem takeSelect_lamp (n : Nat) (s : State) : (takeSelect n s).1.lamp = s.lamp := by
  unfold takeSelect; (repeat' split) <;> simp
@[simp] theorem takeSelect_wear (n : Nat) (s : State) : (takeSelect n s).1.wear = s.wear := by
  unfold takeSelect; (repeat' split) <;> simp
@[simp] theorem takeSelect_geometry (n : Nat) (s : State) : (takeSelect n s).1.geometry = s.geometry := by
  unfold takeSelect; (repeat' split) <;> simp
@[simp] theorem takeSelect_lockout (n : Nat) (s : State) : (takeSelect n s).1.lockout = s.lockout := by
  unfold takeSelect; (repeat' split) <;> simp
@[simp] theorem takeSelect_schedule (n : Nat) (s : State) : (takeSelect n s).1.schedule = s.schedule := by
  unfold takeSelect; (repeat' split) <;> simp
@[simp] theorem takeSelect_duty (n : Nat) (s : State) : (takeSelect n s).1.duty = s.duty := by
  unfold takeSelect; (repeat' split) <;> simp
@[simp] theorem takeSelect_conditions (n : Nat) (s : State) : (takeSelect n s).1.conditions = s.conditions := by
  unfold takeSelect; (repeat' split) <;> simp
@[simp] theorem takeSelect_store (n : Nat) (s : State) : (takeSelect n s).1.store = s.store := by
  unfold takeSelect; (repeat' split) <;> simp

@[simp] theorem putAlias_pending (i : Fin 16) (e : Option AliasEntry) (s : State) : (putAlias i e s).pending = s.pending := by simp [putAlias]
@[simp] theorem putAlias_released (i : Fin 16) (e : Option AliasEntry) (s : State) : (putAlias i e s).released = s.released := by simp [putAlias]
@[simp] theorem putAlias_now (i : Fin 16) (e : Option AliasEntry) (s : State) : (putAlias i e s).now = s.now := by simp [putAlias]
@[simp] theorem putAlias_line (i : Fin 16) (e : Option AliasEntry) (s : State) : (putAlias i e s).line = s.line := by simp [putAlias]
@[simp] theorem putAlias_peers (i : Fin 16) (e : Option AliasEntry) (s : State) : (putAlias i e s).peers = s.peers := by simp [putAlias]
@[simp] theorem putAlias_refusedTimer (i : Fin 16) (e : Option AliasEntry) (s : State) : (putAlias i e s).refusedTimer = s.refusedTimer := by simp [putAlias]
@[simp] theorem putAlias_lamp (i : Fin 16) (e : Option AliasEntry) (s : State) : (putAlias i e s).lamp = s.lamp := by simp [putAlias]
@[simp] theorem putAlias_wear (i : Fin 16) (e : Option AliasEntry) (s : State) : (putAlias i e s).wear = s.wear := by simp [putAlias]
@[simp] theorem putAlias_geometry (i : Fin 16) (e : Option AliasEntry) (s : State) : (putAlias i e s).geometry = s.geometry := by simp [putAlias]
@[simp] theorem putAlias_lockout (i : Fin 16) (e : Option AliasEntry) (s : State) : (putAlias i e s).lockout = s.lockout := by simp [putAlias]
@[simp] theorem putAlias_schedule (i : Fin 16) (e : Option AliasEntry) (s : State) : (putAlias i e s).schedule = s.schedule := by simp [putAlias]
@[simp] theorem putAlias_duty (i : Fin 16) (e : Option AliasEntry) (s : State) : (putAlias i e s).duty = s.duty := by simp [putAlias]
@[simp] theorem putAlias_conditions (i : Fin 16) (e : Option AliasEntry) (s : State) : (putAlias i e s).conditions = s.conditions := by simp [putAlias]

@[simp] theorem sendCorners_pending (c : CornerSet) (s : State) : (sendCorners c s).pending = s.pending := rfl
@[simp] theorem sendCorners_released (c : CornerSet) (s : State) : (sendCorners c s).released = s.released := rfl
@[simp] theorem sendCorners_now (c : CornerSet) (s : State) : (sendCorners c s).now = s.now := rfl
@[simp] theorem sendCorners_line (c : CornerSet) (s : State) : (sendCorners c s).line = s.line := rfl
@[simp] theorem sendCorners_peers (c : CornerSet) (s : State) : (sendCorners c s).peers = s.peers := rfl
@[simp] theorem sendCorners_refusedTimer (c : CornerSet) (s : State) : (sendCorners c s).refusedTimer = s.refusedTimer := rfl
@[simp] theorem sendCorners_lamp (c : CornerSet) (s : State) : (sendCorners c s).lamp = s.lamp := rfl
@[simp] theorem sendCorners_wear (c : CornerSet) (s : State) : (sendCorners c s).wear = s.wear := rfl
@[simp] theorem sendCorners_router (c : CornerSet) (s : State) : (sendCorners c s).router = s.router := rfl
@[simp] theorem sendCorners_lockout (c : CornerSet) (s : State) : (sendCorners c s).lockout = s.lockout := rfl
@[simp] theorem sendCorners_schedule (c : CornerSet) (s : State) : (sendCorners c s).schedule = s.schedule := rfl
@[simp] theorem sendCorners_duty (c : CornerSet) (s : State) : (sendCorners c s).duty = s.duty := rfl
@[simp] theorem sendCorners_conditions (c : CornerSet) (s : State) : (sendCorners c s).conditions = s.conditions := rfl
@[simp] theorem sendCorners_store (c : CornerSet) (s : State) : (sendCorners c s).store = s.store := rfl

@[simp] theorem produceCorners_pending (s : State) : (produceCorners s).pending = s.pending := by
  unfold produceCorners; (repeat' split) <;> simp
@[simp] theorem produceCorners_released (s : State) : (produceCorners s).released = s.released := by
  unfold produceCorners; (repeat' split) <;> simp
@[simp] theorem produceCorners_now (s : State) : (produceCorners s).now = s.now := by
  unfold produceCorners; (repeat' split) <;> simp
@[simp] theorem produceCorners_line (s : State) : (produceCorners s).line = s.line := by
  unfold produceCorners; (repeat' split) <;> simp
@[simp] theorem produceCorners_peers (s : State) : (produceCorners s).peers = s.peers := by
  unfold produceCorners; (repeat' split) <;> simp
@[simp] theorem produceCorners_refusedTimer (s : State) : (produceCorners s).refusedTimer = s.refusedTimer := by
  unfold produceCorners; (repeat' split) <;> simp
@[simp] theorem produceCorners_lamp (s : State) : (produceCorners s).lamp = s.lamp := by
  unfold produceCorners; (repeat' split) <;> simp
@[simp] theorem produceCorners_wear (s : State) : (produceCorners s).wear = s.wear := by
  unfold produceCorners; (repeat' split) <;> simp
@[simp] theorem produceCorners_router (s : State) : (produceCorners s).router = s.router := by
  unfold produceCorners; (repeat' split) <;> simp
@[simp] theorem produceCorners_lockout (s : State) : (produceCorners s).lockout = s.lockout := by
  unfold produceCorners; (repeat' split) <;> simp
@[simp] theorem produceCorners_schedule (s : State) : (produceCorners s).schedule = s.schedule := by
  unfold produceCorners; (repeat' split) <;> simp
@[simp] theorem produceCorners_duty (s : State) : (produceCorners s).duty = s.duty := by
  unfold produceCorners; (repeat' split) <;> simp
@[simp] theorem produceCorners_conditions (s : State) : (produceCorners s).conditions = s.conditions := by
  unfold produceCorners; (repeat' split) <;> simp
@[simp] theorem produceCorners_store (s : State) : (produceCorners s).store = s.store := by
  unfold produceCorners; (repeat' split) <;> simp

@[simp] theorem makeCurrent_pending (k : Keystone) (s : State) : (makeCurrent k s).pending = s.pending := by simp [makeCurrent]
@[simp] theorem makeCurrent_released (k : Keystone) (s : State) : (makeCurrent k s).released = s.released := by simp [makeCurrent]
@[simp] theorem makeCurrent_now (k : Keystone) (s : State) : (makeCurrent k s).now = s.now := by simp [makeCurrent]
@[simp] theorem makeCurrent_line (k : Keystone) (s : State) : (makeCurrent k s).line = s.line := by simp [makeCurrent]
@[simp] theorem makeCurrent_peers (k : Keystone) (s : State) : (makeCurrent k s).peers = s.peers := by simp [makeCurrent]
@[simp] theorem makeCurrent_refusedTimer (k : Keystone) (s : State) : (makeCurrent k s).refusedTimer = s.refusedTimer := by simp [makeCurrent]
@[simp] theorem makeCurrent_lamp (k : Keystone) (s : State) : (makeCurrent k s).lamp = s.lamp := by simp [makeCurrent]
@[simp] theorem makeCurrent_wear (k : Keystone) (s : State) : (makeCurrent k s).wear = s.wear := by simp [makeCurrent]
@[simp] theorem makeCurrent_router (k : Keystone) (s : State) : (makeCurrent k s).router = s.router := by simp [makeCurrent]
@[simp] theorem makeCurrent_lockout (k : Keystone) (s : State) : (makeCurrent k s).lockout = s.lockout := by simp [makeCurrent]
@[simp] theorem makeCurrent_schedule (k : Keystone) (s : State) : (makeCurrent k s).schedule = s.schedule := by simp [makeCurrent]
@[simp] theorem makeCurrent_duty (k : Keystone) (s : State) : (makeCurrent k s).duty = s.duty := by simp [makeCurrent]
@[simp] theorem makeCurrent_conditions (k : Keystone) (s : State) : (makeCurrent k s).conditions = s.conditions := by simp [makeCurrent]

@[simp] theorem endHandoff_pending (s : State) : (endHandoff s).pending = s.pending := by
  unfold endHandoff; (repeat' split) <;> simp
@[simp] theorem endHandoff_released (s : State) : (endHandoff s).released = s.released := by
  unfold endHandoff; (repeat' split) <;> simp
@[simp] theorem endHandoff_now (s : State) : (endHandoff s).now = s.now := by
  unfold endHandoff; (repeat' split) <;> simp
@[simp] theorem endHandoff_line (s : State) : (endHandoff s).line = s.line := by
  unfold endHandoff; (repeat' split) <;> simp
@[simp] theorem endHandoff_peers (s : State) : (endHandoff s).peers = s.peers := by
  unfold endHandoff; (repeat' split) <;> simp
@[simp] theorem endHandoff_refusedTimer (s : State) : (endHandoff s).refusedTimer = s.refusedTimer := by
  unfold endHandoff; (repeat' split) <;> simp
@[simp] theorem endHandoff_lamp (s : State) : (endHandoff s).lamp = s.lamp := by
  unfold endHandoff; (repeat' split) <;> simp
@[simp] theorem endHandoff_wear (s : State) : (endHandoff s).wear = s.wear := by
  unfold endHandoff; (repeat' split) <;> simp
@[simp] theorem endHandoff_router (s : State) : (endHandoff s).router = s.router := by
  unfold endHandoff; (repeat' split) <;> simp
@[simp] theorem endHandoff_lockout (s : State) : (endHandoff s).lockout = s.lockout := by
  unfold endHandoff; (repeat' split) <;> simp
@[simp] theorem endHandoff_schedule (s : State) : (endHandoff s).schedule = s.schedule := by
  unfold endHandoff; (repeat' split) <;> simp
@[simp] theorem endHandoff_duty (s : State) : (endHandoff s).duty = s.duty := by
  unfold endHandoff; (repeat' split) <;> simp
@[simp] theorem endHandoff_conditions (s : State) : (endHandoff s).conditions = s.conditions := by
  unfold endHandoff; (repeat' split) <;> simp
@[simp] theorem endHandoff_store (s : State) : (endHandoff s).store = s.store := by
  unfold endHandoff; (repeat' split) <;> simp

@[simp] theorem takeRecallPreset_pending (n : Nat) (s : State) : (takeRecallPreset n s).1.pending = s.pending := by
  unfold takeRecallPreset; (repeat' split) <;> simp
@[simp] theorem takeRecallPreset_released (n : Nat) (s : State) : (takeRecallPreset n s).1.released = s.released := by
  unfold takeRecallPreset; (repeat' split) <;> simp
@[simp] theorem takeRecallPreset_now (n : Nat) (s : State) : (takeRecallPreset n s).1.now = s.now := by
  unfold takeRecallPreset; (repeat' split) <;> simp
@[simp] theorem takeRecallPreset_line (n : Nat) (s : State) : (takeRecallPreset n s).1.line = s.line := by
  unfold takeRecallPreset; (repeat' split) <;> simp
@[simp] theorem takeRecallPreset_peers (n : Nat) (s : State) : (takeRecallPreset n s).1.peers = s.peers := by
  unfold takeRecallPreset; (repeat' split) <;> simp
@[simp] theorem takeRecallPreset_refusedTimer (n : Nat) (s : State) : (takeRecallPreset n s).1.refusedTimer = s.refusedTimer := by
  unfold takeRecallPreset; (repeat' split) <;> simp
@[simp] theorem takeRecallPreset_lamp (n : Nat) (s : State) : (takeRecallPreset n s).1.lamp = s.lamp := by
  unfold takeRecallPreset; (repeat' split) <;> simp
@[simp] theorem takeRecallPreset_wear (n : Nat) (s : State) : (takeRecallPreset n s).1.wear = s.wear := by
  unfold takeRecallPreset; (repeat' split) <;> simp
@[simp] theorem takeRecallPreset_router (n : Nat) (s : State) : (takeRecallPreset n s).1.router = s.router := by
  unfold takeRecallPreset; (repeat' split) <;> simp
@[simp] theorem takeRecallPreset_lockout (n : Nat) (s : State) : (takeRecallPreset n s).1.lockout = s.lockout := by
  unfold takeRecallPreset; (repeat' split) <;> simp
@[simp] theorem takeRecallPreset_schedule (n : Nat) (s : State) : (takeRecallPreset n s).1.schedule = s.schedule := by
  unfold takeRecallPreset; (repeat' split) <;> simp
@[simp] theorem takeRecallPreset_duty (n : Nat) (s : State) : (takeRecallPreset n s).1.duty = s.duty := by
  unfold takeRecallPreset; (repeat' split) <;> simp
@[simp] theorem takeRecallPreset_conditions (n : Nat) (s : State) : (takeRecallPreset n s).1.conditions = s.conditions := by
  unfold takeRecallPreset; (repeat' split) <;> simp

@[simp] theorem withStack_pending (l : List LockEntry) (s : State) : (withStack l s).pending = s.pending := rfl
@[simp] theorem withStack_released (l : List LockEntry) (s : State) : (withStack l s).released = s.released := rfl
@[simp] theorem withStack_now (l : List LockEntry) (s : State) : (withStack l s).now = s.now := rfl
@[simp] theorem withStack_line (l : List LockEntry) (s : State) : (withStack l s).line = s.line := rfl
@[simp] theorem withStack_peers (l : List LockEntry) (s : State) : (withStack l s).peers = s.peers := rfl
@[simp] theorem withStack_refusedTimer (l : List LockEntry) (s : State) : (withStack l s).refusedTimer = s.refusedTimer := rfl
@[simp] theorem withStack_lamp (l : List LockEntry) (s : State) : (withStack l s).lamp = s.lamp := rfl
@[simp] theorem withStack_wear (l : List LockEntry) (s : State) : (withStack l s).wear = s.wear := rfl
@[simp] theorem withStack_router (l : List LockEntry) (s : State) : (withStack l s).router = s.router := rfl
@[simp] theorem withStack_geometry (l : List LockEntry) (s : State) : (withStack l s).geometry = s.geometry := rfl
@[simp] theorem withStack_schedule (l : List LockEntry) (s : State) : (withStack l s).schedule = s.schedule := rfl
@[simp] theorem withStack_duty (l : List LockEntry) (s : State) : (withStack l s).duty = s.duty := rfl
@[simp] theorem withStack_conditions (l : List LockEntry) (s : State) : (withStack l s).conditions = s.conditions := rfl
@[simp] theorem withStack_store (l : List LockEntry) (s : State) : (withStack l s).store = s.store := rfl

@[simp] theorem setFloor_pending (n : Nat) (s : State) : (setFloor n s).pending = s.pending := rfl
@[simp] theorem setFloor_released (n : Nat) (s : State) : (setFloor n s).released = s.released := rfl
@[simp] theorem setFloor_now (n : Nat) (s : State) : (setFloor n s).now = s.now := rfl
@[simp] theorem setFloor_line (n : Nat) (s : State) : (setFloor n s).line = s.line := rfl
@[simp] theorem setFloor_peers (n : Nat) (s : State) : (setFloor n s).peers = s.peers := rfl
@[simp] theorem setFloor_refusedTimer (n : Nat) (s : State) : (setFloor n s).refusedTimer = s.refusedTimer := rfl
@[simp] theorem setFloor_lamp (n : Nat) (s : State) : (setFloor n s).lamp = s.lamp := rfl
@[simp] theorem setFloor_wear (n : Nat) (s : State) : (setFloor n s).wear = s.wear := rfl
@[simp] theorem setFloor_router (n : Nat) (s : State) : (setFloor n s).router = s.router := rfl
@[simp] theorem setFloor_geometry (n : Nat) (s : State) : (setFloor n s).geometry = s.geometry := rfl
@[simp] theorem setFloor_schedule (n : Nat) (s : State) : (setFloor n s).schedule = s.schedule := rfl
@[simp] theorem setFloor_duty (n : Nat) (s : State) : (setFloor n s).duty = s.duty := rfl
@[simp] theorem setFloor_conditions (n : Nat) (s : State) : (setFloor n s).conditions = s.conditions := rfl
@[simp] theorem setFloor_store (n : Nat) (s : State) : (setFloor n s).store = s.store := rfl

@[simp] theorem stopHoldoff_pending (s : State) : (stopHoldoff s).pending = s.pending := rfl
@[simp] theorem stopHoldoff_released (s : State) : (stopHoldoff s).released = s.released := rfl
@[simp] theorem stopHoldoff_now (s : State) : (stopHoldoff s).now = s.now := rfl
@[simp] theorem stopHoldoff_line (s : State) : (stopHoldoff s).line = s.line := rfl
@[simp] theorem stopHoldoff_peers (s : State) : (stopHoldoff s).peers = s.peers := rfl
@[simp] theorem stopHoldoff_refusedTimer (s : State) : (stopHoldoff s).refusedTimer = s.refusedTimer := rfl
@[simp] theorem stopHoldoff_lamp (s : State) : (stopHoldoff s).lamp = s.lamp := rfl
@[simp] theorem stopHoldoff_wear (s : State) : (stopHoldoff s).wear = s.wear := rfl
@[simp] theorem stopHoldoff_router (s : State) : (stopHoldoff s).router = s.router := rfl
@[simp] theorem stopHoldoff_geometry (s : State) : (stopHoldoff s).geometry = s.geometry := rfl
@[simp] theorem stopHoldoff_lockout (s : State) : (stopHoldoff s).lockout = s.lockout := rfl
@[simp] theorem stopHoldoff_schedule (s : State) : (stopHoldoff s).schedule = s.schedule := rfl
@[simp] theorem stopHoldoff_conditions (s : State) : (stopHoldoff s).conditions = s.conditions := rfl
@[simp] theorem stopHoldoff_store (s : State) : (stopHoldoff s).store = s.store := rfl

@[simp] theorem runHoldoff_pending (d : Nat) (s : State) : (runHoldoff d s).pending = s.pending := by
  unfold runHoldoff; (repeat' split) <;> simp
@[simp] theorem runHoldoff_released (d : Nat) (s : State) : (runHoldoff d s).released = s.released := by
  unfold runHoldoff; (repeat' split) <;> simp
@[simp] theorem runHoldoff_now (d : Nat) (s : State) : (runHoldoff d s).now = s.now := by
  unfold runHoldoff; (repeat' split) <;> simp
@[simp] theorem runHoldoff_line (d : Nat) (s : State) : (runHoldoff d s).line = s.line := by
  unfold runHoldoff; (repeat' split) <;> simp
@[simp] theorem runHoldoff_peers (d : Nat) (s : State) : (runHoldoff d s).peers = s.peers := by
  unfold runHoldoff; (repeat' split) <;> simp
@[simp] theorem runHoldoff_refusedTimer (d : Nat) (s : State) : (runHoldoff d s).refusedTimer = s.refusedTimer := by
  unfold runHoldoff; (repeat' split) <;> simp
@[simp] theorem runHoldoff_lamp (d : Nat) (s : State) : (runHoldoff d s).lamp = s.lamp := by
  unfold runHoldoff; (repeat' split) <;> simp
@[simp] theorem runHoldoff_wear (d : Nat) (s : State) : (runHoldoff d s).wear = s.wear := by
  unfold runHoldoff; (repeat' split) <;> simp
@[simp] theorem runHoldoff_router (d : Nat) (s : State) : (runHoldoff d s).router = s.router := by
  unfold runHoldoff; (repeat' split) <;> simp
@[simp] theorem runHoldoff_geometry (d : Nat) (s : State) : (runHoldoff d s).geometry = s.geometry := by
  unfold runHoldoff; (repeat' split) <;> simp
@[simp] theorem runHoldoff_lockout (d : Nat) (s : State) : (runHoldoff d s).lockout = s.lockout := by
  unfold runHoldoff; (repeat' split) <;> simp
@[simp] theorem runHoldoff_schedule (d : Nat) (s : State) : (runHoldoff d s).schedule = s.schedule := by
  unfold runHoldoff; (repeat' split) <;> simp
@[simp] theorem runHoldoff_conditions (d : Nat) (s : State) : (runHoldoff d s).conditions = s.conditions := by
  unfold runHoldoff; (repeat' split) <;> simp
@[simp] theorem runHoldoff_store (d : Nat) (s : State) : (runHoldoff d s).store = s.store := by
  unfold runHoldoff; (repeat' split) <;> simp

@[simp] theorem deriveOffer_pending (s : State) : (deriveOffer s).pending = s.pending := rfl
@[simp] theorem deriveOffer_released (s : State) : (deriveOffer s).released = s.released := rfl
@[simp] theorem deriveOffer_now (s : State) : (deriveOffer s).now = s.now := rfl
@[simp] theorem deriveOffer_line (s : State) : (deriveOffer s).line = s.line := rfl
@[simp] theorem deriveOffer_peers (s : State) : (deriveOffer s).peers = s.peers := rfl
@[simp] theorem deriveOffer_refusedTimer (s : State) : (deriveOffer s).refusedTimer = s.refusedTimer := rfl
@[simp] theorem deriveOffer_lamp (s : State) : (deriveOffer s).lamp = s.lamp := rfl
@[simp] theorem deriveOffer_wear (s : State) : (deriveOffer s).wear = s.wear := rfl
@[simp] theorem deriveOffer_router (s : State) : (deriveOffer s).router = s.router := rfl
@[simp] theorem deriveOffer_geometry (s : State) : (deriveOffer s).geometry = s.geometry := rfl
@[simp] theorem deriveOffer_lockout (s : State) : (deriveOffer s).lockout = s.lockout := rfl
@[simp] theorem deriveOffer_schedule (s : State) : (deriveOffer s).schedule = s.schedule := rfl
@[simp] theorem deriveOffer_conditions (s : State) : (deriveOffer s).conditions = s.conditions := rfl
@[simp] theorem deriveOffer_store (s : State) : (deriveOffer s).store = s.store := rfl

@[simp] theorem actOnDecision_pending (b : Bool) (s : State) : (actOnDecision b s).pending = s.pending := by
  unfold actOnDecision; (repeat' split) <;> simp
@[simp] theorem actOnDecision_released (b : Bool) (s : State) : (actOnDecision b s).released = s.released := by
  unfold actOnDecision; (repeat' split) <;> simp
@[simp] theorem actOnDecision_now (b : Bool) (s : State) : (actOnDecision b s).now = s.now := by
  unfold actOnDecision; (repeat' split) <;> simp
@[simp] theorem actOnDecision_line (b : Bool) (s : State) : (actOnDecision b s).line = s.line := by
  unfold actOnDecision; (repeat' split) <;> simp
@[simp] theorem actOnDecision_peers (b : Bool) (s : State) : (actOnDecision b s).peers = s.peers := by
  unfold actOnDecision; (repeat' split) <;> simp
@[simp] theorem actOnDecision_refusedTimer (b : Bool) (s : State) : (actOnDecision b s).refusedTimer = s.refusedTimer := by
  unfold actOnDecision; (repeat' split) <;> simp
@[simp] theorem actOnDecision_router (b : Bool) (s : State) : (actOnDecision b s).router = s.router := by
  unfold actOnDecision; (repeat' split) <;> simp
@[simp] theorem actOnDecision_geometry (b : Bool) (s : State) : (actOnDecision b s).geometry = s.geometry := by
  unfold actOnDecision; (repeat' split) <;> simp
@[simp] theorem actOnDecision_lockout (b : Bool) (s : State) : (actOnDecision b s).lockout = s.lockout := by
  unfold actOnDecision; (repeat' split) <;> simp
@[simp] theorem actOnDecision_schedule (b : Bool) (s : State) : (actOnDecision b s).schedule = s.schedule := by
  unfold actOnDecision; (repeat' split) <;> simp
@[simp] theorem actOnDecision_conditions (b : Bool) (s : State) : (actOnDecision b s).conditions = s.conditions := by
  unfold actOnDecision; (repeat' split) <;> simp

@[simp] theorem evaluateOnce_pending (b : Bool) (s : State) : (evaluateOnce b s).pending = s.pending := by simp [evaluateOnce]
@[simp] theorem evaluateOnce_released (b : Bool) (s : State) : (evaluateOnce b s).released = s.released := by simp [evaluateOnce]
@[simp] theorem evaluateOnce_now (b : Bool) (s : State) : (evaluateOnce b s).now = s.now := by simp [evaluateOnce]
@[simp] theorem evaluateOnce_line (b : Bool) (s : State) : (evaluateOnce b s).line = s.line := by simp [evaluateOnce]
@[simp] theorem evaluateOnce_peers (b : Bool) (s : State) : (evaluateOnce b s).peers = s.peers := by simp [evaluateOnce]
@[simp] theorem evaluateOnce_refusedTimer (b : Bool) (s : State) : (evaluateOnce b s).refusedTimer = s.refusedTimer := by simp [evaluateOnce]
@[simp] theorem evaluateOnce_router (b : Bool) (s : State) : (evaluateOnce b s).router = s.router := by simp [evaluateOnce]
@[simp] theorem evaluateOnce_geometry (b : Bool) (s : State) : (evaluateOnce b s).geometry = s.geometry := by simp [evaluateOnce]
@[simp] theorem evaluateOnce_lockout (b : Bool) (s : State) : (evaluateOnce b s).lockout = s.lockout := by simp [evaluateOnce]
@[simp] theorem evaluateOnce_schedule (b : Bool) (s : State) : (evaluateOnce b s).schedule = s.schedule := by simp [evaluateOnce]
@[simp] theorem evaluateOnce_conditions (b : Bool) (s : State) : (evaluateOnce b s).conditions = s.conditions := by simp [evaluateOnce]

@[simp] theorem evaluateChain_pending (n : Nat) (s : State) : (evaluateChain n s).pending = s.pending := by
  induction n generalizing s with
  | zero => rfl
  | succ n ih => unfold evaluateChain; dsimp only; split <;> simp [ih]
@[simp] theorem evaluateChain_released (n : Nat) (s : State) : (evaluateChain n s).released = s.released := by
  induction n generalizing s with
  | zero => rfl
  | succ n ih => unfold evaluateChain; dsimp only; split <;> simp [ih]
@[simp] theorem evaluateChain_now (n : Nat) (s : State) : (evaluateChain n s).now = s.now := by
  induction n generalizing s with
  | zero => rfl
  | succ n ih => unfold evaluateChain; dsimp only; split <;> simp [ih]
@[simp] theorem evaluateChain_line (n : Nat) (s : State) : (evaluateChain n s).line = s.line := by
  induction n generalizing s with
  | zero => rfl
  | succ n ih => unfold evaluateChain; dsimp only; split <;> simp [ih]
@[simp] theorem evaluateChain_peers (n : Nat) (s : State) : (evaluateChain n s).peers = s.peers := by
  induction n generalizing s with
  | zero => rfl
  | succ n ih => unfold evaluateChain; dsimp only; split <;> simp [ih]
@[simp] theorem evaluateChain_refusedTimer (n : Nat) (s : State) : (evaluateChain n s).refusedTimer = s.refusedTimer := by
  induction n generalizing s with
  | zero => rfl
  | succ n ih => unfold evaluateChain; dsimp only; split <;> simp [ih]
@[simp] theorem evaluateChain_router (n : Nat) (s : State) : (evaluateChain n s).router = s.router := by
  induction n generalizing s with
  | zero => rfl
  | succ n ih => unfold evaluateChain; dsimp only; split <;> simp [ih]
@[simp] theorem evaluateChain_geometry (n : Nat) (s : State) : (evaluateChain n s).geometry = s.geometry := by
  induction n generalizing s with
  | zero => rfl
  | succ n ih => unfold evaluateChain; dsimp only; split <;> simp [ih]
@[simp] theorem evaluateChain_lockout (n : Nat) (s : State) : (evaluateChain n s).lockout = s.lockout := by
  induction n generalizing s with
  | zero => rfl
  | succ n ih => unfold evaluateChain; dsimp only; split <;> simp [ih]
@[simp] theorem evaluateChain_schedule (n : Nat) (s : State) : (evaluateChain n s).schedule = s.schedule := by
  induction n generalizing s with
  | zero => rfl
  | succ n ih => unfold evaluateChain; dsimp only; split <;> simp [ih]
@[simp] theorem evaluateChain_conditions (n : Nat) (s : State) : (evaluateChain n s).conditions = s.conditions := by
  induction n generalizing s with
  | zero => rfl
  | succ n ih => unfold evaluateChain; dsimp only; split <;> simp [ih]

@[simp] theorem evaluate_pending (s : State) : (evaluate s).pending = s.pending := by simp [evaluate]
@[simp] theorem evaluate_released (s : State) : (evaluate s).released = s.released := by simp [evaluate]
@[simp] theorem evaluate_now (s : State) : (evaluate s).now = s.now := by simp [evaluate]
@[simp] theorem evaluate_line (s : State) : (evaluate s).line = s.line := by simp [evaluate]
@[simp] theorem evaluate_peers (s : State) : (evaluate s).peers = s.peers := by simp [evaluate]
@[simp] theorem evaluate_refusedTimer (s : State) : (evaluate s).refusedTimer = s.refusedTimer := by simp [evaluate]
@[simp] theorem evaluate_router (s : State) : (evaluate s).router = s.router := by simp [evaluate]
@[simp] theorem evaluate_geometry (s : State) : (evaluate s).geometry = s.geometry := by simp [evaluate]
@[simp] theorem evaluate_lockout (s : State) : (evaluate s).lockout = s.lockout := by simp [evaluate]
@[simp] theorem evaluate_schedule (s : State) : (evaluate s).schedule = s.schedule := by simp [evaluate]
@[simp] theorem evaluate_conditions (s : State) : (evaluate s).conditions = s.conditions := by simp [evaluate]

@[simp] theorem applySource_pending (n : Option Nat) (s : State) : (applySource n s).pending = s.pending := by
  unfold applySource; (repeat' split) <;> simp
@[simp] theorem applySource_released (n : Option Nat) (s : State) : (applySource n s).released = s.released := by
  unfold applySource; (repeat' split) <;> simp
@[simp] theorem applySource_now (n : Option Nat) (s : State) : (applySource n s).now = s.now := by
  unfold applySource; (repeat' split) <;> simp
@[simp] theorem applySource_line (n : Option Nat) (s : State) : (applySource n s).line = s.line := by
  unfold applySource; (repeat' split) <;> simp
@[simp] theorem applySource_peers (n : Option Nat) (s : State) : (applySource n s).peers = s.peers := by
  unfold applySource; (repeat' split) <;> simp
@[simp] theorem applySource_refusedTimer (n : Option Nat) (s : State) : (applySource n s).refusedTimer = s.refusedTimer := by
  unfold applySource; (repeat' split) <;> simp
@[simp] theorem applySource_lamp (n : Option Nat) (s : State) : (applySource n s).lamp = s.lamp := by
  unfold applySource; (repeat' split) <;> simp
@[simp] theorem applySource_wear (n : Option Nat) (s : State) : (applySource n s).wear = s.wear := by
  unfold applySource; (repeat' split) <;> simp
@[simp] theorem applySource_geometry (n : Option Nat) (s : State) : (applySource n s).geometry = s.geometry := by
  unfold applySource; (repeat' split) <;> simp
@[simp] theorem applySource_lockout (n : Option Nat) (s : State) : (applySource n s).lockout = s.lockout := by
  unfold applySource; (repeat' split) <;> simp
@[simp] theorem applySource_schedule (n : Option Nat) (s : State) : (applySource n s).schedule = s.schedule := by
  unfold applySource; (repeat' split) <;> simp
@[simp] theorem applySource_duty (n : Option Nat) (s : State) : (applySource n s).duty = s.duty := by
  unfold applySource; (repeat' split) <;> simp
@[simp] theorem applySource_conditions (n : Option Nat) (s : State) : (applySource n s).conditions = s.conditions := by
  unfold applySource; (repeat' split) <;> simp
@[simp] theorem applySource_store (n : Option Nat) (s : State) : (applySource n s).store = s.store := by
  unfold applySource; (repeat' split) <;> simp

@[simp] theorem applyPreset_pending (n : Option Nat) (s : State) : (applyPreset n s).pending = s.pending := by
  unfold applyPreset; (repeat' split) <;> simp
@[simp] theorem applyPreset_released (n : Option Nat) (s : State) : (applyPreset n s).released = s.released := by
  unfold applyPreset; (repeat' split) <;> simp
@[simp] theorem applyPreset_now (n : Option Nat) (s : State) : (applyPreset n s).now = s.now := by
  unfold applyPreset; (repeat' split) <;> simp
@[simp] theorem applyPreset_line (n : Option Nat) (s : State) : (applyPreset n s).line = s.line := by
  unfold applyPreset; (repeat' split) <;> simp
@[simp] theorem applyPreset_peers (n : Option Nat) (s : State) : (applyPreset n s).peers = s.peers := by
  unfold applyPreset; (repeat' split) <;> simp
@[simp] theorem applyPreset_refusedTimer (n : Option Nat) (s : State) : (applyPreset n s).refusedTimer = s.refusedTimer := by
  unfold applyPreset; (repeat' split) <;> simp
@[simp] theorem applyPreset_lamp (n : Option Nat) (s : State) : (applyPreset n s).lamp = s.lamp := by
  unfold applyPreset; (repeat' split) <;> simp
@[simp] theorem applyPreset_wear (n : Option Nat) (s : State) : (applyPreset n s).wear = s.wear := by
  unfold applyPreset; (repeat' split) <;> simp
@[simp] theorem applyPreset_router (n : Option Nat) (s : State) : (applyPreset n s).router = s.router := by
  unfold applyPreset; (repeat' split) <;> simp
@[simp] theorem applyPreset_lockout (n : Option Nat) (s : State) : (applyPreset n s).lockout = s.lockout := by
  unfold applyPreset; (repeat' split) <;> simp
@[simp] theorem applyPreset_schedule (n : Option Nat) (s : State) : (applyPreset n s).schedule = s.schedule := by
  unfold applyPreset; (repeat' split) <;> simp
@[simp] theorem applyPreset_duty (n : Option Nat) (s : State) : (applyPreset n s).duty = s.duty := by
  unfold applyPreset; (repeat' split) <;> simp
@[simp] theorem applyPreset_conditions (n : Option Nat) (s : State) : (applyPreset n s).conditions = s.conditions := by
  unfold applyPreset; (repeat' split) <;> simp

@[simp] theorem applyMode_pending (m : Option PowerMode) (s : State) : (applyMode m s).pending = s.pending := by
  unfold applyMode; (repeat' split) <;> simp
@[simp] theorem applyMode_released (m : Option PowerMode) (s : State) : (applyMode m s).released = s.released := by
  unfold applyMode; (repeat' split) <;> simp
@[simp] theorem applyMode_now (m : Option PowerMode) (s : State) : (applyMode m s).now = s.now := by
  unfold applyMode; (repeat' split) <;> simp
@[simp] theorem applyMode_line (m : Option PowerMode) (s : State) : (applyMode m s).line = s.line := by
  unfold applyMode; (repeat' split) <;> simp
@[simp] theorem applyMode_peers (m : Option PowerMode) (s : State) : (applyMode m s).peers = s.peers := by
  unfold applyMode; (repeat' split) <;> simp
@[simp] theorem applyMode_refusedTimer (m : Option PowerMode) (s : State) : (applyMode m s).refusedTimer = s.refusedTimer := by
  unfold applyMode; (repeat' split) <;> simp
@[simp] theorem applyMode_wear (m : Option PowerMode) (s : State) : (applyMode m s).wear = s.wear := by
  unfold applyMode; (repeat' split) <;> simp
@[simp] theorem applyMode_router (m : Option PowerMode) (s : State) : (applyMode m s).router = s.router := by
  unfold applyMode; (repeat' split) <;> simp
@[simp] theorem applyMode_geometry (m : Option PowerMode) (s : State) : (applyMode m s).geometry = s.geometry := by
  unfold applyMode; (repeat' split) <;> simp
@[simp] theorem applyMode_lockout (m : Option PowerMode) (s : State) : (applyMode m s).lockout = s.lockout := by
  unfold applyMode; (repeat' split) <;> simp
@[simp] theorem applyMode_schedule (m : Option PowerMode) (s : State) : (applyMode m s).schedule = s.schedule := by
  unfold applyMode; (repeat' split) <;> simp
@[simp] theorem applyMode_duty (m : Option PowerMode) (s : State) : (applyMode m s).duty = s.duty := by
  unfold applyMode; (repeat' split) <;> simp
@[simp] theorem applyMode_conditions (m : Option PowerMode) (s : State) : (applyMode m s).conditions = s.conditions := by
  unfold applyMode; (repeat' split) <;> simp
@[simp] theorem applyMode_store (m : Option PowerMode) (s : State) : (applyMode m s).store = s.store := by
  unfold applyMode; (repeat' split) <;> simp

@[simp] theorem takeDutyEntry_pending (g d : Option Nat) (s : State) : (takeDutyEntry g d s).pending = s.pending := rfl
@[simp] theorem takeDutyEntry_released (g d : Option Nat) (s : State) : (takeDutyEntry g d s).released = s.released := rfl
@[simp] theorem takeDutyEntry_now (g d : Option Nat) (s : State) : (takeDutyEntry g d s).now = s.now := rfl
@[simp] theorem takeDutyEntry_line (g d : Option Nat) (s : State) : (takeDutyEntry g d s).line = s.line := rfl
@[simp] theorem takeDutyEntry_peers (g d : Option Nat) (s : State) : (takeDutyEntry g d s).peers = s.peers := rfl
@[simp] theorem takeDutyEntry_refusedTimer (g d : Option Nat) (s : State) : (takeDutyEntry g d s).refusedTimer = s.refusedTimer := rfl
@[simp] theorem takeDutyEntry_lamp (g d : Option Nat) (s : State) : (takeDutyEntry g d s).lamp = s.lamp := rfl
@[simp] theorem takeDutyEntry_wear (g d : Option Nat) (s : State) : (takeDutyEntry g d s).wear = s.wear := rfl
@[simp] theorem takeDutyEntry_router (g d : Option Nat) (s : State) : (takeDutyEntry g d s).router = s.router := rfl
@[simp] theorem takeDutyEntry_geometry (g d : Option Nat) (s : State) : (takeDutyEntry g d s).geometry = s.geometry := rfl
@[simp] theorem takeDutyEntry_lockout (g d : Option Nat) (s : State) : (takeDutyEntry g d s).lockout = s.lockout := rfl
@[simp] theorem takeDutyEntry_schedule (g d : Option Nat) (s : State) : (takeDutyEntry g d s).schedule = s.schedule := rfl
@[simp] theorem takeDutyEntry_conditions (g d : Option Nat) (s : State) : (takeDutyEntry g d s).conditions = s.conditions := rfl
@[simp] theorem takeDutyEntry_store (g d : Option Nat) (s : State) : (takeDutyEntry g d s).store = s.store := rfl

@[simp] theorem setGoverning_pending (g : Option (Nat × Nat)) (s : State) : (setGoverning g s).pending = s.pending := rfl
@[simp] theorem setGoverning_released (g : Option (Nat × Nat)) (s : State) : (setGoverning g s).released = s.released := rfl
@[simp] theorem setGoverning_now (g : Option (Nat × Nat)) (s : State) : (setGoverning g s).now = s.now := rfl
@[simp] theorem setGoverning_line (g : Option (Nat × Nat)) (s : State) : (setGoverning g s).line = s.line := rfl
@[simp] theorem setGoverning_peers (g : Option (Nat × Nat)) (s : State) : (setGoverning g s).peers = s.peers := rfl
@[simp] theorem setGoverning_refusedTimer (g : Option (Nat × Nat)) (s : State) : (setGoverning g s).refusedTimer = s.refusedTimer := rfl
@[simp] theorem setGoverning_lamp (g : Option (Nat × Nat)) (s : State) : (setGoverning g s).lamp = s.lamp := rfl
@[simp] theorem setGoverning_wear (g : Option (Nat × Nat)) (s : State) : (setGoverning g s).wear = s.wear := rfl
@[simp] theorem setGoverning_router (g : Option (Nat × Nat)) (s : State) : (setGoverning g s).router = s.router := rfl
@[simp] theorem setGoverning_geometry (g : Option (Nat × Nat)) (s : State) : (setGoverning g s).geometry = s.geometry := rfl
@[simp] theorem setGoverning_lockout (g : Option (Nat × Nat)) (s : State) : (setGoverning g s).lockout = s.lockout := rfl
@[simp] theorem setGoverning_duty (g : Option (Nat × Nat)) (s : State) : (setGoverning g s).duty = s.duty := rfl
@[simp] theorem setGoverning_conditions (g : Option (Nat × Nat)) (s : State) : (setGoverning g s).conditions = s.conditions := rfl
@[simp] theorem setGoverning_store (g : Option (Nat × Nat)) (s : State) : (setGoverning g s).store = s.store := rfl

end Sys2Proof.Machine
end

