-- ==== Sys2Proof/Laws/FrameFollowed.lean ====
section
/-! SUPPORT. Which blocks what follows a command, and an answer, leave as they are. -/

namespace Sys2Proof.Machine

@[simp] theorem dutyWatch_pending (b : State) (s : State) : (dutyWatch b s).pending = s.pending := by
  unfold dutyWatch; (repeat' split) <;> simp
@[simp] theorem dutyWatch_released (b : State) (s : State) : (dutyWatch b s).released = s.released := by
  unfold dutyWatch; (repeat' split) <;> simp
@[simp] theorem dutyWatch_now (b : State) (s : State) : (dutyWatch b s).now = s.now := by
  unfold dutyWatch; (repeat' split) <;> simp
@[simp] theorem dutyWatch_line (b : State) (s : State) : (dutyWatch b s).line = s.line := by
  unfold dutyWatch; (repeat' split) <;> simp
@[simp] theorem dutyWatch_peers (b : State) (s : State) : (dutyWatch b s).peers = s.peers := by
  unfold dutyWatch; (repeat' split) <;> simp
@[simp] theorem dutyWatch_refusedTimer (b : State) (s : State) : (dutyWatch b s).refusedTimer = s.refusedTimer := by
  unfold dutyWatch; (repeat' split) <;> simp
@[simp] theorem dutyWatch_router (b : State) (s : State) : (dutyWatch b s).router = s.router := by
  unfold dutyWatch; (repeat' split) <;> simp
@[simp] theorem dutyWatch_geometry (b : State) (s : State) : (dutyWatch b s).geometry = s.geometry := by
  unfold dutyWatch; (repeat' split) <;> simp
@[simp] theorem dutyWatch_lockout (b : State) (s : State) : (dutyWatch b s).lockout = s.lockout := by
  unfold dutyWatch; (repeat' split) <;> simp
@[simp] theorem dutyWatch_schedule (b : State) (s : State) : (dutyWatch b s).schedule = s.schedule := by
  unfold dutyWatch; (repeat' split) <;> simp
@[simp] theorem dutyWatch_conditions (b : State) (s : State) : (dutyWatch b s).conditions = s.conditions := by
  unfold dutyWatch; (repeat' split) <;> simp

@[simp] theorem changeWatch_pending (b : State) (s : State) : (changeWatch b s).pending = s.pending := by
  unfold changeWatch; (repeat' split) <;> simp
@[simp] theorem changeWatch_released (b : State) (s : State) : (changeWatch b s).released = s.released := by
  unfold changeWatch; (repeat' split) <;> simp
@[simp] theorem changeWatch_now (b : State) (s : State) : (changeWatch b s).now = s.now := by
  unfold changeWatch; (repeat' split) <;> simp
@[simp] theorem changeWatch_refusedTimer (b : State) (s : State) : (changeWatch b s).refusedTimer = s.refusedTimer := by
  unfold changeWatch; (repeat' split) <;> simp
@[simp] theorem changeWatch_lamp (b : State) (s : State) : (changeWatch b s).lamp = s.lamp := by
  unfold changeWatch; (repeat' split) <;> simp
@[simp] theorem changeWatch_wear (b : State) (s : State) : (changeWatch b s).wear = s.wear := by
  unfold changeWatch; (repeat' split) <;> simp
@[simp] theorem changeWatch_router (b : State) (s : State) : (changeWatch b s).router = s.router := by
  unfold changeWatch; (repeat' split) <;> simp
@[simp] theorem changeWatch_geometry (b : State) (s : State) : (changeWatch b s).geometry = s.geometry := by
  unfold changeWatch; (repeat' split) <;> simp
@[simp] theorem changeWatch_lockout (b : State) (s : State) : (changeWatch b s).lockout = s.lockout := by
  unfold changeWatch; (repeat' split) <;> simp
@[simp] theorem changeWatch_schedule (b : State) (s : State) : (changeWatch b s).schedule = s.schedule := by
  unfold changeWatch; (repeat' split) <;> simp
@[simp] theorem changeWatch_duty (b : State) (s : State) : (changeWatch b s).duty = s.duty := by
  unfold changeWatch; (repeat' split) <;> simp
@[simp] theorem changeWatch_conditions (b : State) (s : State) : (changeWatch b s).conditions = s.conditions := by
  unfold changeWatch; (repeat' split) <;> simp
@[simp] theorem changeWatch_store (b : State) (s : State) : (changeWatch b s).store = s.store := by
  unfold changeWatch; (repeat' split) <;> simp

@[simp] theorem writeWatch_pending (b : State) (s : State) : (writeWatch b s).pending = s.pending := by
  unfold writeWatch; (repeat' split) <;> simp
@[simp] theorem writeWatch_released (b : State) (s : State) : (writeWatch b s).released = s.released := by
  unfold writeWatch; (repeat' split) <;> simp
@[simp] theorem writeWatch_now (b : State) (s : State) : (writeWatch b s).now = s.now := by
  unfold writeWatch; (repeat' split) <;> simp
@[simp] theorem writeWatch_line (b : State) (s : State) : (writeWatch b s).line = s.line := by
  unfold writeWatch; (repeat' split) <;> simp
@[simp] theorem writeWatch_peers (b : State) (s : State) : (writeWatch b s).peers = s.peers := by
  unfold writeWatch; (repeat' split) <;> simp
@[simp] theorem writeWatch_refusedTimer (b : State) (s : State) : (writeWatch b s).refusedTimer = s.refusedTimer := by
  unfold writeWatch; (repeat' split) <;> simp
@[simp] theorem writeWatch_lamp (b : State) (s : State) : (writeWatch b s).lamp = s.lamp := by
  unfold writeWatch; (repeat' split) <;> simp
@[simp] theorem writeWatch_wear (b : State) (s : State) : (writeWatch b s).wear = s.wear := by
  unfold writeWatch; (repeat' split) <;> simp
@[simp] theorem writeWatch_router (b : State) (s : State) : (writeWatch b s).router = s.router := by
  unfold writeWatch; (repeat' split) <;> simp
@[simp] theorem writeWatch_geometry (b : State) (s : State) : (writeWatch b s).geometry = s.geometry := by
  unfold writeWatch; (repeat' split) <;> simp
@[simp] theorem writeWatch_lockout (b : State) (s : State) : (writeWatch b s).lockout = s.lockout := by
  unfold writeWatch; (repeat' split) <;> simp
@[simp] theorem writeWatch_schedule (b : State) (s : State) : (writeWatch b s).schedule = s.schedule := by
  unfold writeWatch; (repeat' split) <;> simp
@[simp] theorem writeWatch_duty (b : State) (s : State) : (writeWatch b s).duty = s.duty := by
  unfold writeWatch; (repeat' split) <;> simp
@[simp] theorem writeWatch_conditions (b : State) (s : State) : (writeWatch b s).conditions = s.conditions := by
  unfold writeWatch; (repeat' split) <;> simp

@[simp] theorem settle_pending (b : State) (s : State) : (settle b s).pending = s.pending := by simp [settle]
@[simp] theorem settle_released (b : State) (s : State) : (settle b s).released = s.released := by simp [settle]
@[simp] theorem settle_now (b : State) (s : State) : (settle b s).now = s.now := by simp [settle]
@[simp] theorem settle_refusedTimer (b : State) (s : State) : (settle b s).refusedTimer = s.refusedTimer := by simp [settle]
@[simp] theorem settle_router (b : State) (s : State) : (settle b s).router = s.router := by simp [settle]
@[simp] theorem settle_geometry (b : State) (s : State) : (settle b s).geometry = s.geometry := by simp [settle]
@[simp] theorem settle_lockout (b : State) (s : State) : (settle b s).lockout = s.lockout := by simp [settle]
@[simp] theorem settle_schedule (b : State) (s : State) : (settle b s).schedule = s.schedule := by simp [settle]
@[simp] theorem settle_conditions (b : State) (s : State) : (settle b s).conditions = s.conditions := by simp [settle]

@[simp] theorem offerCues_pending (a n : Nat) (s : State) : (offerCues a n s).pending = s.pending := by
  unfold offerCues
  generalize cueGroups _ = l
  induction l generalizing s with
  | nil => rfl
  | cons g l ih => simp [ih]
@[simp] theorem offerCues_released (a n : Nat) (s : State) : (offerCues a n s).released = s.released := by
  unfold offerCues
  generalize cueGroups _ = l
  induction l generalizing s with
  | nil => rfl
  | cons g l ih => simp [ih]
@[simp] theorem offerCues_now (a n : Nat) (s : State) : (offerCues a n s).now = s.now := by
  unfold offerCues
  generalize cueGroups _ = l
  induction l generalizing s with
  | nil => rfl
  | cons g l ih => simp [ih]
@[simp] theorem offerCues_peers (a n : Nat) (s : State) : (offerCues a n s).peers = s.peers := by
  unfold offerCues
  generalize cueGroups _ = l
  induction l generalizing s with
  | nil => rfl
  | cons g l ih => simp [ih]
@[simp] theorem offerCues_refusedTimer (a n : Nat) (s : State) : (offerCues a n s).refusedTimer = s.refusedTimer := by
  unfold offerCues
  generalize cueGroups _ = l
  induction l generalizing s with
  | nil => rfl
  | cons g l ih => simp [ih]
@[simp] theorem offerCues_lamp (a n : Nat) (s : State) : (offerCues a n s).lamp = s.lamp := by
  unfold offerCues
  generalize cueGroups _ = l
  induction l generalizing s with
  | nil => rfl
  | cons g l ih => simp [ih]
@[simp] theorem offerCues_wear (a n : Nat) (s : State) : (offerCues a n s).wear = s.wear := by
  unfold offerCues
  generalize cueGroups _ = l
  induction l generalizing s with
  | nil => rfl
  | cons g l ih => simp [ih]
@[simp] theorem offerCues_router (a n : Nat) (s : State) : (offerCues a n s).router = s.router := by
  unfold offerCues
  generalize cueGroups _ = l
  induction l generalizing s with
  | nil => rfl
  | cons g l ih => simp [ih]
@[simp] theorem offerCues_geometry (a n : Nat) (s : State) : (offerCues a n s).geometry = s.geometry := by
  unfold offerCues
  generalize cueGroups _ = l
  induction l generalizing s with
  | nil => rfl
  | cons g l ih => simp [ih]
@[simp] theorem offerCues_lockout (a n : Nat) (s : State) : (offerCues a n s).lockout = s.lockout := by
  unfold offerCues
  generalize cueGroups _ = l
  induction l generalizing s with
  | nil => rfl
  | cons g l ih => simp [ih]
@[simp] theorem offerCues_schedule (a n : Nat) (s : State) : (offerCues a n s).schedule = s.schedule := by
  unfold offerCues
  generalize cueGroups _ = l
  induction l generalizing s with
  | nil => rfl
  | cons g l ih => simp [ih]
@[simp] theorem offerCues_duty (a n : Nat) (s : State) : (offerCues a n s).duty = s.duty := by
  unfold offerCues
  generalize cueGroups _ = l
  induction l generalizing s with
  | nil => rfl
  | cons g l ih => simp [ih]
@[simp] theorem offerCues_store (a n : Nat) (s : State) : (offerCues a n s).store = s.store := by
  unfold offerCues
  generalize cueGroups _ = l
  induction l generalizing s with
  | nil => rfl
  | cons g l ih => simp [ih]

@[simp] theorem answer_pending (d m : Bool) (c : Byte) (o : OrderFrame) (r : Result) (x : List Byte) (s : State) : (answer d m c o r x s).pending = s.pending := by
  unfold answer; (repeat' split) <;> simp
@[simp] theorem answer_released (d m : Bool) (c : Byte) (o : OrderFrame) (r : Result) (x : List Byte) (s : State) : (answer d m c o r x s).released = s.released := by
  unfold answer; (repeat' split) <;> simp
@[simp] theorem answer_now (d m : Bool) (c : Byte) (o : OrderFrame) (r : Result) (x : List Byte) (s : State) : (answer d m c o r x s).now = s.now := by
  unfold answer; (repeat' split) <;> simp
@[simp] theorem answer_peers (d m : Bool) (c : Byte) (o : OrderFrame) (r : Result) (x : List Byte) (s : State) : (answer d m c o r x s).peers = s.peers := by
  unfold answer; (repeat' split) <;> simp
@[simp] theorem answer_refusedTimer (d m : Bool) (c : Byte) (o : OrderFrame) (r : Result) (x : List Byte) (s : State) : (answer d m c o r x s).refusedTimer = s.refusedTimer := by
  unfold answer; (repeat' split) <;> simp
@[simp] theorem answer_lamp (d m : Bool) (c : Byte) (o : OrderFrame) (r : Result) (x : List Byte) (s : State) : (answer d m c o r x s).lamp = s.lamp := by
  unfold answer; (repeat' split) <;> simp
@[simp] theorem answer_wear (d m : Bool) (c : Byte) (o : OrderFrame) (r : Result) (x : List Byte) (s : State) : (answer d m c o r x s).wear = s.wear := by
  unfold answer; (repeat' split) <;> simp
@[simp] theorem answer_router (d m : Bool) (c : Byte) (o : OrderFrame) (r : Result) (x : List Byte) (s : State) : (answer d m c o r x s).router = s.router := by
  unfold answer; (repeat' split) <;> simp
@[simp] theorem answer_geometry (d m : Bool) (c : Byte) (o : OrderFrame) (r : Result) (x : List Byte) (s : State) : (answer d m c o r x s).geometry = s.geometry := by
  unfold answer; (repeat' split) <;> simp
@[simp] theorem answer_lockout (d m : Bool) (c : Byte) (o : OrderFrame) (r : Result) (x : List Byte) (s : State) : (answer d m c o r x s).lockout = s.lockout := by
  unfold answer; (repeat' split) <;> simp
@[simp] theorem answer_schedule (d m : Bool) (c : Byte) (o : OrderFrame) (r : Result) (x : List Byte) (s : State) : (answer d m c o r x s).schedule = s.schedule := by
  unfold answer; (repeat' split) <;> simp
@[simp] theorem answer_duty (d m : Bool) (c : Byte) (o : OrderFrame) (r : Result) (x : List Byte) (s : State) : (answer d m c o r x s).duty = s.duty := by
  unfold answer; (repeat' split) <;> simp
@[simp] theorem answer_store (d m : Bool) (c : Byte) (o : OrderFrame) (r : Result) (x : List Byte) (s : State) : (answer d m c o r x s).store = s.store := by
  unfold answer; (repeat' split) <;> simp

end Sys2Proof.Machine
end

