-- ==== Sys2Proof/Laws/Duty.lean ====
section
/-! SUPPORT. What one evaluation of Shared Duty can do, and what a whole chain of them can do (R160 to R169). -/

namespace Sys2Proof.Machine

/-- A duty record that differs from the one held only in offer and holdoff. -/
def dutyWith (s : State) (offer : Option Nat) (holdoff : Option Holdoff) : Duty :=
  { s.duty with offer := offer, holdoff := holdoff }

@[simp] theorem decision_withHoldoff (s : State) (h : Option Holdoff) :
    (s.withDuty { s.duty with holdoff := h }).decision = s.decision := rfl

theorem runHoldoff_eq (d : Nat) (s : State) : ∃ h, runHoldoff d s = s.withDuty { s.duty with holdoff := h } := by
  unfold runHoldoff
  split
  · split
    · exact ⟨s.duty.holdoff, rfl⟩
    · exact ⟨_, rfl⟩
  · exact ⟨_, rfl⟩

/-- What the action of a decision can do: nothing to the lamp, a strike of a dark lamp decided ON, or the cool-down of a
lamp lit by the schedule. -/
theorem actOnDecision_cases (b : Bool) (s : State) :
    ∃ h, (actOnDecision b s = s.withDuty { s.duty with holdoff := h } ∧
          ¬ (lampOn s.lamp.state = true ∧ s.lamp.cause = .schedule ∧ (s.decision = .off ∨ s.decision = .noDuty))) ∨
      (s.decision = .on ∧ s.lamp.state = .dark ∧ s.barred = false ∧
        actOnDecision b s = enterPreheat .schedule (s.withDuty { s.duty with holdoff := h })) ∨
      (lampOn s.lamp.state = true ∧ s.lamp.cause = .schedule ∧ (s.decision = .off ∨ s.decision = .noDuty) ∧
        actOnDecision b s = enterCooldown (s.withDuty { s.duty with holdoff := h })) := by
  unfold actOnDecision
  split
  · rename_i hd
    split
    · split
      · by_cases hb : s.barred = false
        · refine ⟨none, .inr (.inl ⟨hd, ‹_›, hb, ?_⟩)⟩
          simp [strikeRequest, stopHoldoff, *]
        · refine ⟨none, .inl ⟨?_, by simp [hd]⟩⟩
          simp [strikeRequest, stopHoldoff, hb]
      · obtain ⟨h, e⟩ := runHoldoff_eq (s.darkRank (s.duty.offer.getD 0)) s
        exact ⟨h, .inl ⟨e, by simp [hd]⟩⟩
    · exact ⟨none, .inl ⟨rfl, by simp [hd]⟩⟩
  · rename_i hd
    refine ⟨none, ?_⟩
    by_cases hr : lampOn s.lamp.state = true ∧ s.lamp.cause = .schedule
    · exact .inr (.inr ⟨hr.1, hr.2, .inl hd, by simp [release, stopHoldoff, hr]⟩)
    · exact .inl ⟨by simp [release, stopHoldoff, hr], fun h => hr ⟨h.1, h.2.1⟩⟩
  · rename_i hd
    refine ⟨none, ?_⟩
    by_cases hr : lampOn s.lamp.state = true ∧ s.lamp.cause = .schedule
    · exact .inr (.inr ⟨hr.1, hr.2, .inr hd, by simp [release, stopHoldoff, hr]⟩)
    · exact .inl ⟨by simp [release, stopHoldoff, hr], fun h => hr ⟨h.1, h.2.1⟩⟩
  · rename_i hd
    exact ⟨none, .inl ⟨rfl, by simp [hd]⟩⟩

/-- What one evaluation can do (R166, R167). -/
theorem evaluateOnce_cases (b : Bool) (s : State) :
    ∃ h, (evaluateOnce b s = s.withDuty (dutyWith s s.offerNow h)) ∨
      ((deriveOffer s).decision = .on ∧ s.lamp.state = .dark ∧ s.barred = false ∧
        evaluateOnce b s = enterPreheat .schedule (s.withDuty (dutyWith s s.offerNow h))) ∨
      (lampOn s.lamp.state = true ∧ s.lamp.cause = .schedule ∧
        evaluateOnce b s = enterCooldown (s.withDuty (dutyWith s s.offerNow h))) := by
  obtain ⟨h, c⟩ := actOnDecision_cases b (deriveOffer s)
  refine ⟨h, ?_⟩
  rcases c with c | c | c
  · exact .inl c.1
  · exact .inr (.inl ⟨c.1, c.2.1, c.2.2.1, c.2.2.2⟩)
  · exact .inr (.inr ⟨c.1, c.2.1, c.2.2.2⟩)

theorem offerNow_cooldown {s : State} (h : s.lamp.state = .cooldown) : s.offerNow = none := by
  simp [State.offerNow, h]

/-- An evaluation that finds the offer none asks a lamp in COOLDOWN for nothing (R169). -/
theorem evaluateOnce_of_cooldown (b : Bool) {s : State} (h : s.lamp.state = .cooldown) :
    evaluateOnce b s = s.withDuty (dutyWith s none none) := by
  have ho := offerNow_cooldown h
  have hd : (deriveOffer s).decision = .noDuty := by simp [State.decision, deriveOffer, ho]
  unfold evaluateOnce actOnDecision
  rw [hd]
  simp [release, stopHoldoff, h, lampOn, deriveOffer, ho, dutyWith]

theorem rankedBefore_of_struck {c a b : Candidate} (ha : lampOn a.lamp = true) (hb : lampOn b.lamp = false)
    (hw : a.wearKey = b.wearKey) (hadd : a.address = b.address) (h : rankedBefore c a = true) :
    rankedBefore c b = true := by
  unfold rankedBefore at *
  rw [hw, hadd, ha] at h
  rw [hb]
  cases hc : lampOn c.lamp <;> simp [hc] at h ⊢

/-- Cool-down looks at nothing of Shared Duty. -/
theorem enterCooldown_withDuty (s : State) (x : Duty) : enterCooldown (s.withDuty x) = (enterCooldown s).withDuty x := by
  unfold enterCooldown extinction mark
  by_cases hb : lampBurning s.lamp.state = true <;> by_cases hm : RecordId.wear ∈ s.store.list <;> simp [hb, hm] <;> rfl

theorem filter_length_le_of_imp {α : Type} {p q : α → Bool} (l : List α) (h : ∀ x, p x = true → q x = true) :
    (l.filter p).length ≤ (l.filter q).length := by
  induction l with
  | nil => simp
  | cons a l ih =>
    by_cases hp : p a = true
    · simp [hp, h a hp, ih]
    · by_cases hq : q a = true
      · simp [hp, hq]; omega
      · simp [hp, hq, ih]

theorem decision_on_iff (s : State) :
    s.decision = .on ↔ ∃ g, s.duty.offer = some g ∧ s.ownCandidate.isCounted = false ∧ s.rank g < s.dutySlots g := by
  unfold State.decision
  split
  · simp [*]
  · rename_i g hg
    by_cases hc : s.ownCandidate.isCounted = true <;> by_cases hr : s.rank g < s.dutySlots g <;> simp [hc, hr, hg]

/-- A station decided ON stays so when its lamp comes on by the schedule and nothing else moves (R169). -/
theorem decision_on_of_struck {s t : State} (hd : s.decision = .on) (hs : lampOn s.lamp.state = false)
    (ht : lampOn t.lamp.state = true) (hc : t.lamp.cause = .schedule) (ho : t.duty.offer = s.duty.offer)
    (hdem : t.duty.entryDemand = s.duty.entryDemand) (hp : t.peers = s.peers) (hw : t.wearKey = s.wearKey)
    (ha : t.line = s.line) : t.decision = .on := by
  obtain ⟨g, hg, hcs, hr⟩ := (decision_on_iff s).1 hd
  have hct : t.ownCandidate.isCounted = false := by simp [State.ownCandidate, Candidate.isCounted, hc]
  have hpc : t.peerCandidates g = s.peerCandidates g := by simp [State.peerCandidates, hp]
  refine (decision_on_iff t).2 ⟨g, ho.trans hg, hct, ?_⟩
  have hslots : t.dutySlots g = s.dutySlots g := by
    simp [State.dutySlots, hct, hcs, hpc, hdem]
  rw [hslots]
  refine Nat.lt_of_le_of_lt ?_ hr
  unfold State.rank State.ahead
  rw [hpc]
  refine filter_length_le_of_imp _ fun c hcc => ?_
  simp only [Bool.and_eq_true] at hcc ⊢
  exact ⟨hcc.1, rankedBefore_of_struck (a := t.ownCandidate) ht hs hw (by simp [State.ownCandidate, ha]) hcc.2⟩

/-- The state after a strike by duty: the offer is the one derived before it, and the decision stays ON. -/
theorem decision_after_strike {s : State} (hd : (deriveOffer s).decision = .on) (hs : s.lamp.state = .dark)
    (h : Option Holdoff) :
    (enterPreheat .schedule (s.withDuty (dutyWith s s.offerNow h))).offerNow = s.offerNow ∧
      (deriveOffer (enterPreheat .schedule (s.withDuty (dutyWith s s.offerNow h)))).decision = .on := by
  have ho : (enterPreheat .schedule (s.withDuty (dutyWith s s.offerNow h))).offerNow = s.offerNow := by
    simp [State.offerNow, enterPreheat, dutyWith, hs, State.lampFaulted, State.latched, State.life]
  exact ⟨ho, decision_on_of_struck hd (by simp [deriveOffer, hs, lampOn]) rfl rfl (by simp [deriveOffer, ho]) rfl rfl
    rfl rfl⟩

/-- What a whole chain of evaluations can do (R169): set offer and holdoff, and strike or release at most once. -/
theorem evaluate_cases (s : State) :
    ∃ o h, evaluate s = s.withDuty (dutyWith s o h) ∨
      (s.lamp.state = .dark ∧ s.barred = false ∧
        evaluate s = (enterPreheat .schedule s).withDuty (dutyWith s o h)) ∨
      (lampOn s.lamp.state = true ∧ s.lamp.cause = .schedule ∧
        evaluate s = (enterCooldown s).withDuty (dutyWith s o h)) := by
  obtain ⟨h, c⟩ := evaluateOnce_cases false s
  rcases c with c | ⟨hd, hs, hb, c⟩ | ⟨hl, hc, c⟩
  · refine ⟨s.offerNow, h, .inl ?_⟩
    simp [evaluate, evaluateChain, c]
  · obtain ⟨ho, hd'⟩ := decision_after_strike hd hs h
    set t := enterPreheat .schedule (s.withDuty (dutyWith s s.offerNow h)) with ht
    have e2 : evaluateOnce false t = t.withDuty (dutyWith t s.offerNow none) := by
      unfold evaluateOnce actOnDecision
      rw [hd']
      have : (deriveOffer t).lamp.state ≠ .dark := by simp [ht, deriveOffer, enterPreheat]
      rw [if_neg this]
      simp [stopHoldoff, deriveOffer, dutyWith, ho]
    refine ⟨s.offerNow, none, .inr (.inl ⟨hs, hb, ?_⟩)⟩
    have h1 : t.lamp.state ≠ s.lamp.state := by simp [ht, enterPreheat, hs]
    have : evaluate s = t.withDuty (dutyWith t s.offerNow none) := by
      show evaluateChain 3 s = _
      unfold evaluateChain
      simp only [c, h1, if_false]
      unfold evaluateChain
      simp [e2]
    rw [this]
    rfl
  · set t := enterCooldown (s.withDuty (dutyWith s s.offerNow h)) with ht
    have e2 := evaluateOnce_of_cooldown false (s := t) rfl
    refine ⟨none, none, .inr (.inr ⟨hl, hc, ?_⟩)⟩
    have h1 : t.lamp.state ≠ s.lamp.state := by
      intro h; rw [← h] at hl; simp [ht, enterCooldown, lampOn] at hl
    have : evaluate s = t.withDuty (dutyWith t none none) := by
      show evaluateChain 3 s = _
      unfold evaluateChain
      simp only [c, h1, if_false]
      unfold evaluateChain
      simp [e2]
    rw [this, ht, enterCooldown_withDuty]
    simp [dutyWith]

end Sys2Proof.Machine
end

