-- ==== Sys2Proof/Laws/Settle.lean ====
section
/-! SUPPORT. What follows a command within its event, said once: `settle_followed`. Claims about a command cite it and
never unfold `settle`. -/

namespace Sys2Proof.Machine

/-- The beacon reads these blocks and no others (R21). -/
theorem beaconNow_congr {s t : State} (h1 : t.lamp = s.lamp) (h2 : t.wear = s.wear) (h3 : t.router = s.router)
    (h4 : t.lockout = s.lockout) (h5 : t.schedule = s.schedule) (h6 : t.duty = s.duty)
    (h7 : t.conditions = s.conditions) (h8 : t.store.settings = s.store.settings) : t.beaconNow = s.beaconNow := by
  unfold State.beaconNow State.beacon State.served State.hot State.life State.pictureShown State.wearKey
    State.sourceShown State.level State.summary
  rw [h1, h2, h3, h4, h5, h6, h7, h8]

/-- Shared Duty's evaluations are raised by these and nothing else (R162). -/
theorem dutySources_congr {s t : State} (h1 : t.lamp = s.lamp) (h2 : t.wear = s.wear) (h3 : t.duty = s.duty)
    (h4 : t.conditions = s.conditions) (h5 : t.store.settings = s.store.settings)
    (h6 : t.line.state = s.line.state) (h7 : t.peers.table = s.peers.table) : t.dutySources = s.dutySources := by
  unfold State.dutySources State.life State.wearKey
  rw [h1, h2, h3, h4, h5, h6, h7]

theorem filter_modify_of_same {p : QueuedFrame → Bool} {g : QueuedFrame → QueuedFrame} (l : List QueuedFrame) (i : Nat)
    (h : ∀ q, l[i]? = some q → p q = false ∧ p (g q) = false) : (l.modify i g).filter p = l.filter p := by
  induction l generalizing i with
  | nil => simp
  | cons a l ih =>
    cases i with
    | zero => obtain ⟨h1, h2⟩ := h a rfl; simp [h1, h2]
    | succ i =>
      rw [List.modify_succ_cons, List.filter_cons, List.filter_cons, ih i (fun q hq => h q (by simpa using hq))]

/-- The queue's BEACON, where the queue has one. -/
theorem beaconPlace_some {queue : List QueuedFrame} {i : Nat} (h : beaconPlace queue = some i) :
    ∃ q, queue[i]? = some q ∧ q.frame.kind = .beacon := by
  unfold beaconPlace at h
  rw [List.findIdx?_eq_some_iff_getElem] at h
  obtain ⟨hi, hq, -⟩ := h
  exact ⟨queue[i], List.getElem?_eq_getElem hi, by simpa using hq⟩

/-- An offered BEACON leaves every other frame of the queue, and all of the line but queue and held update (R11, R12). -/
theorem offerBeacon_line_keeps (p : List Byte) (s : State) :
    (offerBeacon p s).line =
        { s.line with queue := (offerBeacon p s).line.queue, heldUpdate := (offerBeacon p s).line.heldUpdate } ∧
      (offerBeacon p s).line.queue.filter notBeacon = s.line.queue.filter notBeacon := by
  unfold offerBeacon
  split
  · split
    · rename_i i hi
      split
      · exact ⟨rfl, rfl⟩
      · refine ⟨rfl, filter_modify_of_same _ _ fun q hq => ?_⟩
        obtain ⟨q', hq', hk⟩ := beaconPlace_some hi
        rw [hq] at hq'
        cases hq'
        simp [notBeacon, rewritten, hk]
    · split
      · refine ⟨rfl, ?_⟩
        simp [joinQueue, notBeacon, beaconFrame]
      · exact ⟨rfl, rfl⟩
  · exact ⟨rfl, rfl⟩

/-- The change watch changes the queue's BEACON, the held update and the last image alone (R24). -/
theorem changeWatch_keeps (before s : State) :
    (changeWatch before s).line =
        { s.line with queue := (changeWatch before s).line.queue,
                      heldUpdate := (changeWatch before s).line.heldUpdate } ∧
      (changeWatch before s).line.queue.filter notBeacon = s.line.queue.filter notBeacon ∧
      (changeWatch before s).peers = { s.peers with image := (changeWatch before s).peers.image } := by
  unfold changeWatch
  split
  · unfold offerOwnBeacon
    have h := offerBeacon_line_keeps s.beaconNow (s.withPeers { s.peers with image := some s.beaconNow })
    simp only [State.withPeers_line] at h
    exact ⟨h.1, h.2, by simp⟩
  · exact ⟨rfl, rfl, rfl⟩

theorem changeWatch_quiet {before s : State} (h : s.beaconNow = before.beaconNow) : changeWatch before s = s := by
  simp [changeWatch, h]

/-- A write begun takes the head of the list and nothing else (R178). -/
theorem beginWrite_store (s : State) :
    (beginWrite s).store =
      { s.store with list := (beginWrite s).store.list, inFlight := (beginWrite s).store.inFlight } := by
  unfold beginWrite
  split
  · split <;> rfl
  · rfl

theorem writeWatch_store (before s : State) :
    (writeWatch before s).store =
      { s.store with list := (writeWatch before s).store.list, inFlight := (writeWatch before s).store.inFlight } := by
  unfold writeWatch
  split
  · rfl
  · exact beginWrite_store s

/-- A mark adds to the list and changes nothing else (R178). -/
theorem mark_store (r : RecordId) (s : State) : (mark r s).store = { s.store with list := (mark r s).store.list } := by
  unfold mark; split <;> rfl

theorem enterCooldown_store (s : State) :
    (enterCooldown s).store = { s.store with list := (enterCooldown s).store.list } := by
  unfold enterCooldown extinction
  split
  · exact mark_store _ _
  · rfl

theorem enterCooldown_wear (s : State) :
    (enterCooldown s).wear = if lampBurning s.lamp.state then { s.wear with sinceExtinction := some 0 } else s.wear := by
  unfold enterCooldown extinction
  split <;> simp

/-- What a chain of Shared Duty's evaluations leaves (R166, R169). -/
theorem evaluate_keeps (s : State) :
    (evaluate s).duty = { s.duty with offer := (evaluate s).duty.offer, holdoff := (evaluate s).duty.holdoff } ∧
      (evaluate s).store = { s.store with list := (evaluate s).store.list } ∧
      ((evaluate s).wear = s.wear ∨
        (lampBurning s.lamp.state = true ∧ s.lamp.cause = .schedule ∧
          (evaluate s).wear = { s.wear with sinceExtinction := some 0 })) ∧
      ((evaluate s).lamp = s.lamp ∨
        (s.lamp.state = .dark ∧ s.barred = false ∧ (evaluate s).lamp = (enterPreheat .schedule s).lamp) ∨
        (lampOn s.lamp.state = true ∧ s.lamp.cause = .schedule ∧ (evaluate s).lamp = (enterCooldown s).lamp)) := by
  obtain ⟨o, h, c | ⟨hs, hb, c⟩ | ⟨hl, hc, c⟩⟩ := evaluate_cases s
  · rw [c]; exact ⟨rfl, rfl, .inl rfl, .inl rfl⟩
  · rw [c]; exact ⟨rfl, rfl, .inl rfl, .inr (.inl ⟨hs, hb, rfl⟩)⟩
  · rw [c]
    refine ⟨rfl, enterCooldown_store s, ?_, .inr (.inr ⟨hl, hc, rfl⟩)⟩
    simp only [State.withDuty_wear, enterCooldown_wear]
    by_cases hb : lampBurning s.lamp.state = true
    · exact .inr ⟨hb, hc, by simp [hb]⟩
    · exact .inl (by simp [hb])

theorem dutyWatch_keeps (before s : State) :
    (dutyWatch before s).duty =
        { s.duty with offer := (dutyWatch before s).duty.offer, holdoff := (dutyWatch before s).duty.holdoff } ∧
      (dutyWatch before s).store = { s.store with list := (dutyWatch before s).store.list } ∧
      ((dutyWatch before s).wear = s.wear ∨
        (lampBurning s.lamp.state = true ∧ s.lamp.cause = .schedule ∧
          (dutyWatch before s).wear = { s.wear with sinceExtinction := some 0 })) ∧
      ((dutyWatch before s).lamp = s.lamp ∨
        (s.lamp.state = .dark ∧ s.barred = false ∧ (dutyWatch before s).lamp = (enterPreheat .schedule s).lamp) ∨
        (lampOn s.lamp.state = true ∧ s.lamp.cause = .schedule ∧
          (dutyWatch before s).lamp = (enterCooldown s).lamp)) := by
  unfold dutyWatch
  split
  · exact ⟨rfl, rfl, .inl rfl, .inl rfl⟩
  · exact evaluate_keeps s

theorem dutyWatch_quiet {before s : State} (h : s.dutySources = before.dutySources) : dutyWatch before s = s := by
  simp [dutyWatch, h]

theorem writeWatch_quiet {before s : State} (h : s.store.list = before.store.list) : writeWatch before s = s := by
  simp [writeWatch, h]

/-- The write of a list's head looks at these and nothing else (R178). -/
theorem beginWrite_congr {s t : State} (h1 : t.store = s.store) (h2 : t.wear.record = s.wear.record)
    (h3 : t.router = s.router) (h4 : t.schedule = s.schedule) (h5 : t.geometry = s.geometry) (h6 : t.now = s.now) :
    (beginWrite t).store = (beginWrite s).store := by
  have hc : ∀ r, recordContent t r = recordContent s r := by
    intro r; cases r <;> simp [recordContent, h1, h2, h3, h4, h5]
  unfold beginWrite
  rw [h1]
  split
  · simp only [State.loaded, h1, h6, hc]
    by_cases hl : Config.recordCount ≤ s.store.loadIndex <;> simp [h1, hl]
  · exact h1

/-- An evaluation leaves the wear record's mark of a release, and nothing else, in the Store (R66, R88). -/
theorem evaluate_marks (s t : State) (h : t.lamp = (evaluate s).lamp) : (evaluate s).store = (markedBy s t).store := by
  obtain ⟨o, d, c | ⟨hs, _, c⟩ | ⟨hl, _, c⟩⟩ := evaluate_cases s
  · have : ¬ (lampBurning s.lamp.state = true ∧ t.lamp.state = .cooldown) := by
      rw [h, c]; rintro ⟨h1, h2⟩; simp at h2; simp [h2, lampBurning] at h1
    rw [markedBy, if_neg this, c]; rfl
  · have : ¬ (lampBurning s.lamp.state = true ∧ t.lamp.state = .cooldown) := by
      rw [hs]; simp [lampBurning]
    rw [markedBy, if_neg this, c]; rfl
  · have ht : t.lamp.state = .cooldown := by rw [h, c]; rfl
    rw [c, markedBy]
    by_cases hb : lampBurning s.lamp.state = true
    · rw [if_pos ⟨hb, ht⟩]
      simp only [State.withDuty_store, enterCooldown, hb, if_true, State.withLamp_store, extinction, mark]
      split <;> simp_all
    · rw [if_neg (fun x => hb x.1)]
      simp [enterCooldown, hb]

/-- The beacon an offer forms depends on the Line Interface alone. -/
theorem offerBeacon_line_congr (p : List Byte) {s t : State} (h : t.line = s.line) :
    (offerBeacon p t).line = (offerBeacon p s).line := by
  unfold offerBeacon State.queueHasRoom joinQueue beaconFrame
  rw [h]
  split
  · split
    · split <;> simp
    · split <;> simp [h]
  · exact h

theorem changeWatch_beaconNow (before s : State) : (changeWatch before s).beaconNow = s.beaconNow :=
  beaconNow_congr (by simp) (by simp) (by simp) (by simp) (by simp) (by simp) (by simp) (by simp)

theorem settle_beaconNow (before u : State) : (settle before u).beaconNow = (dutyWatch before u).beaconNow :=
  beaconNow_congr (by simp [settle]) (by simp [settle]) (by simp [settle]) (by simp [settle]) (by simp [settle])
    (by simp [settle]) (by simp [settle])
    (by unfold settle; rw [writeWatch_store]; simp)

/-- Everything that follows a command within its event. -/
theorem settle_followed (before u : State) : Followed before u (settle before u) := by
  obtain ⟨hd, -, hw, hl⟩ := dutyWatch_keeps before u
  have cf := (changeWatch_keeps before (dutyWatch before u)).2.1
  have lamp : (settle before u).lamp = (dutyWatch before u).lamp := by simp [settle]
  have hm : (dutyWatch before u).store = (markedBy u (settle before u)).store := by
    by_cases h : u.dutySources = before.dutySources
    · rw [dutyWatch_quiet h, markedBy, if_neg]
      rw [lamp, dutyWatch_quiet h]
      rintro ⟨h1, h2⟩
      simp [h2, lampBurning] at h1
    · have e : dutyWatch before u = evaluate u := by simp [dutyWatch, h]
      rw [e] at lamp ⊢
      exact evaluate_marks u _ lamp
  have line : (settle before u).line = (changeWatch before (dutyWatch before u)).line := by simp [settle]
  have peers : (settle before u).peers = (changeWatch before (dutyWatch before u)).peers := by simp [settle]
  have off : watchOffers before u (settle before u) ↔
      ((dutyWatch before u).line.state = .active ∧ (dutyWatch before u).beaconNow ≠ before.beaconNow ∧
        (dutyWatch before u).peers.image ≠ some (dutyWatch before u).beaconNow) := by
    unfold watchOffers; rw [settle_beaconNow]; simp
  refine
    { pending := by simp
      released := by simp
      now := by simp
      refusedTimer := by simp
      router := by simp
      geometry := by simp
      lockout := by simp
      schedule := by simp
      conditions := by simp
      quietDuty := fun h => by simp [settle, dutyWatch_quiet h]
      evaluated := fun h => by simp [settle, dutyWatch, h]
      duty := by simpa [settle] using hd
      wear := by simpa [settle] using hw
      lamp := by simpa [settle] using hl
      offered := fun h => ?_
      quietLine := fun h => ?_
      frames := by simpa [settle] using cf
      quietStore := fun h => ?_
      written := fun h => ?_ }
  · rw [line, peers, settle_beaconNow, changeWatch, if_pos (off.1 h)]
    constructor
    · exact offerBeacon_line_congr _ (by simp)
    · simp [offerOwnBeacon]
  · rw [line, peers, changeWatch, if_neg (fun x => h (off.2 x))]
    exact ⟨by simp, by simp⟩
  · rw [← hm] at h ⊢
    simp [settle, writeWatch, h]
  · have h' := h
    rw [← hm] at h'
    have : (settle before u).store = (beginWrite (changeWatch before (dutyWatch before u))).store := by
      simp [settle, writeWatch, h']
    rw [this]
    refine beginWrite_congr (by simp [hm]) ?_ (by simp [markedBy, apply_ite]) (by simp [markedBy, apply_ite])
      (by simp [markedBy, apply_ite]) (by simp [markedBy, apply_ite])
    rcases hw with e | ⟨-, -, e⟩ <;> simp [e, markedBy, apply_ite]

/-- A command of a released part gives the state of its effect, and what follows. -/
theorem command_effects {f : State → State} {s : State} (h : s.released = true) :
    ∃ t, command f s = .next t ∧ Followed s (f s) t :=
  ⟨settle s (f s), by simp [command, h], settle_followed s (f s)⟩

end Sys2Proof.Machine
end

