-- ==== Sys2Proof/Laws/Orders.lean ====
section
/-! SUPPORT. An order on its way to its owner, said once (R35 to R41): an order that reaches its owner, one that a check
refuses, and one not for this station. -/

namespace Sys2Proof.Machine

theorem orderOfCode_code (kind : OrderKind) : orderOfCode kind.code = some kind := by cases kind <;> rfl

/-- Every command that is an ORDER of a known code runs the same path. -/
theorem exec_order {i : Instr} {kind : OrderKind} {o : OrderFrame} (h : orderCarried i = some (kind, o)) (s : State) :
    exec i s = command (receiveOrder kind.code o) s := by
  cases i <;> simp [orderCarried] at h <;> obtain ⟨rfl, rfl⟩ := h <;> rfl

/-- The result of an order that has passed every check: its owner's effect, its answer, its CUE frames. -/
def orderTaken (kind : OrderKind) (o : OrderFrame) (s : State) : State :=
  let t : Taken := { args := o.args, authority := o.authority.toNat, origin := some o.source }
  let r := ownerTakes kind t s
  announce kind t r.result
    (answer (s.direct o) (kind == .restart && !s.store.restartPending) kind.code o r.result r.data r.state)

theorem receiveOrder_delivered {code : Byte} {o : OrderFrame} {s : State} (h : Delivered o s) :
    receiveOrder code o s = decodeAny code o s := by
  simp [receiveOrder, h.taking, h.source, h.dest, h.other, h.active]

theorem decodeOrder_judged {kind : OrderKind} {o : OrderFrame} {s : State} (h : s.judges kind o) :
    decodeOrder kind o s = judgeOrder kind (s.direct o) o s := by
  rcases h with h | ⟨h, hd⟩
  · simp [decodeOrder, State.direct, h]
  · simp only [decodeOrder, State.direct, h, hd]; rfl

theorem receiveOrder_reaches {kind : OrderKind} {o : OrderFrame} {s : State} (h : Reaches kind o s) :
    receiveOrder kind.code o s = orderTaken kind o s := by
  rw [receiveOrder_delivered h.delivered, decodeAny, orderOfCode_code]
  simp only [decodeOrder_judged h.judged, judgeOrder, h.passed]
  rfl

theorem receiveOrder_refused {kind : OrderKind} {o : OrderFrame} {s : State} {r : Result} (h : Delivered o s)
    (hj : s.judges kind o) (hr : orderRefusal kind o.authority.toNat o.args s = some r) :
    receiveOrder kind.code o s = answer (s.direct o) false kind.code o r [] s := by
  rw [receiveOrder_delivered h, decodeAny, orderOfCode_code]
  simp only [decodeOrder_judged hj, judgeOrder, hr]

/-- An order that reaches its owner: its effect, and what follows. -/
theorem order_effects {i : Instr} {kind : OrderKind} {o : OrderFrame} {s : State} (hi : orderCarried i = some (kind, o))
    (h : Reaches kind o s) : Effects i s (orderTaken kind o s) := by
  obtain ⟨t, ht, hf⟩ := command_effects (f := receiveOrder kind.code o) h.delivered.released
  rw [receiveOrder_reaches h] at hf
  exact ⟨t, by rw [exec_order hi, ht], hf⟩

/-- An order that passes its checks has arguments of its form and in range (R37, R38). -/
theorem Reaches.form {kind : OrderKind} {o : OrderFrame} {s : State} (h : Reaches kind o s) :
    orderFormOk kind o.args = true ∧ orderRangeOk kind o.args = true := by
  have := h.passed
  unfold orderRefusal at this
  split at this
  · rename_i hh; simpa using hh
  · simp at this

/-- A command whose effect leaves everything that may be followed answers exactly that effect. -/
theorem command_quiet {f : State → State} {s : State} (h : s.released = true)
    (hd : (f s).dutySources = s.dutySources) (hb : (f s).beaconNow = s.beaconNow)
    (hl : (f s).store.list = s.store.list) : command f s = .next (f s) := by
  have h1 := changeWatch_quiet hb
  simp [command, h, settle, dutyWatch_quiet hd, h1, writeWatch_quiet hl]

end Sys2Proof.Machine
end

