-- ==== Sys2Proof/Laws/Effects.lean ====
section
/-! SUPPORT. How a claim about a command is reached from the operation the command runs: the claim cites one of these,
and then speaks of the operation alone. -/

namespace Sys2Proof.Machine

/-- A command whose operation changes nothing answers the state it met. -/
theorem command_same {f : State → State} {s : State} (e : f s = s) : command f s = .next s := by
  by_cases h : s.released = true
  · rw [command_quiet h (by rw [e]) (by rw [e]) (by rw [e]), e]
  · simp [command, h]

/-- A command has the effect of its operation. -/
theorem effects_of_command {f : State → State} {s u : State} {c : Instr} (h : s.released = true)
    (hc : exec c s = command f s) (e : f s = u) : Effects c s u := by
  obtain ⟨t, ht, hf⟩ := command_effects (f := f) h
  exact ⟨t, by rw [hc, ht], e ▸ hf⟩

/-- An order that reaches its owner has the effect its owner gives it. -/
theorem effects_of_order {i : Instr} {kind : OrderKind} {o : OrderFrame} {s u : State}
    (hi : orderCarried i = some (kind, o)) (h : Reaches kind o s) (e : orderTaken kind o s = u) : Effects i s u :=
  e ▸ order_effects hi h

/-- A search of the positions finds the only one that suits. -/
theorem find_only {n : Nat} {p : Fin n → Bool} {i : Fin n} (h : p i = true) (hu : ∀ j, p j = true → j = i) :
    (List.finRange n).find? p = some i := by
  cases hf : (List.finRange n).find? p with
  | none => rw [List.find?_eq_none] at hf; exact absurd h (hf i (List.mem_finRange i))
  | some k => rw [hu k (List.find?_some hf)]

/-- A timer whose moment has come runs out. -/
theorem runsOut_of_due {s : State} {timer : Option Nat} {due : Nat} (h : timer = some due) (hd : due ≤ s.now) :
    runsOut s timer = true := by simp [runsOut, h, hd]

/-- A timer that is stopped, or whose moment has not come, does not run out. -/
theorem runsOut_early {s : State} {timer : Option Nat} (h : ∀ due, timer = some due → s.now < due) :
    runsOut s timer = false := by
  cases timer with
  | none => rfl
  | some due => simp [runsOut, h due rfl]

/-- A search of the positions finds the lowest one that suits. -/
theorem find_lowest {n : Nat} {p : Fin n → Bool} {i : Fin n} (h : p i = true) (hl : ∀ j, j < i → p j = false) :
    (List.finRange n).find? p = some i := by
  rw [List.find?_eq_some_iff_getElem]
  exact ⟨h, i.val, by simp, by simp, fun j hj => by simpa using hl _ hj⟩

/-- The Store with nothing in flight, its load complete, commands the write of the list's head (R178). -/
theorem beginWrite_idle {u : State} (h : u.store.inFlight = none) (hl : u.loaded = true) :
    beginWrite u =
      match u.store.list with
      | r :: rest =>
        u.withStore
          { u.store with
            list := rest
            inFlight := some
              { record := r, bytes := withCheck (recordContent u r), due := u.now + Config.memoryTime } }
      | [] => u := by
  unfold beginWrite
  rw [h]
  cases u.store.list with
  | nil => rfl
  | cons r rest => simp [hl]

end Sys2Proof.Machine
end

