-- ==== Sys2Proof/WellFormed.lean ====
section
/-! DEFINITION. Which terms of `Instr` are a command of their row: the operands lie in the ranges the manual states,
and the bytes carried are those of the row. -/

namespace Sys2Proof

/-- The frame ends where its length byte says, or earlier where the line fell idle (R18). -/
def noBytesBeyond : List Byte → Bool
  | _ :: _ :: _ :: len :: rest => decide (len.toNat > Config.maxPayload ∨ rest.length ≤ len.toNat + 2)
  | _ => true

/-- A whole frame of the given kind code. -/
def wholeFrameOf (kind : FrameKind) : List Byte → Bool
  | _ :: _ :: kindByte :: len :: rest =>
    decide (len.toNat ≤ Config.maxPayload) && rest.length == len.toNat + 2 &&
      kindByte.extractLsb' 4 4 == kind.code
  | _ => false

/-- An order frame that has passed the receive path (R18, R19). -/
def OrderFrame.wellFormed (o : OrderFrame) : Bool :=
  sourceOk o.source && destOk o.dest && decide (o.args.length ≤ 22)

/-- The arguments of an UNLOCK whose all-flag is set (R136). -/
def allFlagSet : List Byte → Bool
  | [_, flags] => flags.getLsbD 0
  | _ => false

/-- A QUERY that names the record of the given code. -/
def namesRecord (code : Nat) (o : OrderFrame) : Bool :=
  o.args.head? == some (byteOf code)

/-- A QUERY of STATUS, or one that names none of the records 1 to 10. -/
def namesNoOtherRecord (o : OrderFrame) : Bool :=
  match o.args.head? with
  | none => true
  | some r => decide (r.toNat = 0 ∨ r.toNat > 10)

/-- A station address that is valid (R5). -/
def addressOk (a : BitVec 5) : Bool := sourceOk a

/-- An input port of the projector. -/
def portOk (p : Nat) : Bool := decide (1 ≤ p ∧ p ≤ 6)

/-- The term is a command of its row. -/
def Instr.wellFormed : Instr → Bool
  | .powerOn => true
  | .resetPin => true
  | .resetRelease _ _ => true
  | .listenEnd => true
  | .contendForLine rival => noBytesBeyond rival
  | .frameSent => true
  | .lineFault => true
  | .beaconReceived f => wholeFrameOf .beacon f
  | .clockReceived f => wholeFrameOf .clock f
  | .cueReceived f => wholeFrameOf .cue f
  | .frameDiscarded f => noBytesBeyond f
  | .unknownOrder code o => o.wellFormed && (orderOfCode code).isNone
  | .light o => o.wellFormed
  | .rest o => o.wellFormed
  | .setMode o => o.wellFormed
  | .showPicture o => o.wellFormed
  | .blank o => o.wellFormed
  | .select o => o.wellFormed
  | .aliasWrite o => o.wellFormed
  | .aliasClear o => o.wellFormed
  | .setKeystone o => o.wellFormed
  | .nudgeKeystone o => o.wellFormed
  | .storePreset o => o.wellFormed
  | .recallPreset o => o.wellFormed
  | .lock o => o.wellFormed
  | .unlock o => o.wellFormed && !allFlagSet o.args
  | .unlockAll o => o.wellFormed && allFlagSet o.args
  | .entryWrite o => o.wellFormed
  | .entryClear o => o.wellFormed
  | .timeSet o => o.wellFormed
  | .acknowledge o => o.wellFormed
  | .queryStatus o => o.wellFormed && namesNoOtherRecord o
  | .queryWear o => o.wellFormed && namesRecord 1 o
  | .queryAlias o => o.wellFormed && namesRecord 2 o
  | .queryEntry o => o.wellFormed && namesRecord 3 o
  | .queryLocks o => o.wellFormed && namesRecord 4 o
  | .queryPeer o => o.wellFormed && namesRecord 5 o
  | .queryConditions o => o.wellFormed && namesRecord 6 o
  | .queryGeometry o => o.wellFormed && namesRecord 7 o
  | .queryPreset o => o.wellFormed && namesRecord 8 o
  | .queryClock o => o.wellFormed && namesRecord 9 o
  | .querySettings o => o.wellFormed && namesRecord 10 o
  | .wearReset o => o.wellFormed
  | .settingsWrite o => o.wellFormed
  | .restart o => o.wellFormed
  | .restartReset => true
  | .powerKey => true
  | .sourceKey => true
  | .blankKey => true
  | .vKey _ => true
  | .hKey _ => true
  | .refusedTimeout => true
  | .beaconPeriod => true
  | .peerAgeOut a => addressOk a
  | .oneSecondTick sample => decide (-40 ≤ sample ∧ sample ≤ 200)
  | .preheatTimer => true
  | .attemptRunsOut => true
  | .gapRunsOut => true
  | .ignition => true
  | .dropout => true
  | .warmupTimer => true
  | .cooldownTimer => true
  | .lockReport p => portOk p
  | .switchTimer => true
  | .signalPresenceReport p _ => portOk p
  | .searchTimer => true
  | .applied _ => true
  | .handoffTimer => true
  | .minuteTick => true
  | .minuteBoundary => true
  | .strikeHoldoff => true
  | .readAnswered _ => true
  | .readTimeout => true
  | .writeConfirmed _ => true
  | .writeTimeout => true
  | .lineFallsIdle => true

end Sys2Proof
end

