-- ==== Sys2Proof/Tests/Slice0.lean ====
section
/-! SUPPORT. The model's own tests: ill-formed terms refused, the manual's worked examples, one step of each command, and
for every statement with hypotheses a concrete case that meets them. Expected values are the manual's, or worked by hand
from it. -/

open Sys2Proof Sys2Proof.Machine

namespace Sys2Proof.Tests

-- The tests are evaluated by the kernel one after another: side by side they would each hold a thread.
set_option Elab.async false

/-! ## A small hall -/

/-- Station 5 in ACTIVE, its load complete, its lamp DARK. -/
def hall : State :=
  { State.reset with
    released := true
    line := { Line.reset with state := .active, address := 5 }
    lamp := { Lamp.reset with state := .dark }
    store := { Store.reset with loadIndex := 51 } }

/-- An order from station 2 to station 5 at authority 7, tag 9. -/
def order (args : List Byte) : OrderFrame := { source := 2, dest := 5, authority := 7, tag := 9, args := args }

/-- The hall with its lamp in the given state, lit by the given cause. -/
def lampIn (state : LampState) (cause : LitCause) : State :=
  { hall with lamp := { hall.lamp with state := state, timer := some 500, cause := cause } }

/-- A source on port 1 without a fallback, one on port 2 that falls back on it, and one on port 6. -/
def sourceA : AliasEntry := { source := 1, port := 1, fallback := none, label := [] }
/-- See `sourceA`. -/
def sourceB : AliasEntry := { source := 2, port := 2, fallback := some 1, label := [] }
/-- See `sourceA`. -/
def sourceC : AliasEntry := { source := 63, port := 6, fallback := some 2, label := [0x41] }

/-- The router with the three sources in positions 0, 1 and 2. -/
def wired : Router :=
  { Router.reset with
    table := ((Router.reset.table.set 0 (some sourceA)).set 1 (some sourceB)).set 2 (some sourceC) }

/-- The hall with those sources, showing source 2 on its port 2. -/
def shown : State :=
  { hall with router := { wired with selection := .settled, current := some 2, port := some 2 } }

/-- One part of the next state a command answers. -/
def after {α : Type} (part : State → α) : Host.Outcome State Fault Refusal → Option α
  | .next t => some (part t)
  | _ => none

/-- The payloads that wait in the transmit queue. -/
def waiting (s : State) : List (List Byte) := s.line.queue.map fun q => q.frame.payload

/-- A whole frame of station 2 to all stations. -/
def frame2 (kind : FrameKind) (authority : BitVec 3) (payload : List Byte) : Frame :=
  { cls := 1, source := 2, dest := 0x80, kind := kind, authority := authority, payload := payload }

/-! ## Ill-formed terms, one for each check -/

theorem test_wf_bytes_beyond : (Instr.frameDiscarded (List.replicate 40 0)).wellFormed = false := by decide +kernel
theorem test_wf_beacon_kind : (Instr.beaconReceived (frame2 .cue 0 [0, 1]).bytes).wellFormed = false := by decide +kernel
theorem test_wf_clock_kind : (Instr.clockReceived (frame2 .beacon 0 [2]).bytes).wellFormed = false := by decide +kernel
theorem test_wf_cue_short : (Instr.cueReceived [0x42, 0x80, 0x50, 2, 0]).wellFormed = false := by decide +kernel
theorem test_wf_known_code : (Instr.unknownOrder 0x10 (order [])).wellFormed = false := by decide +kernel
theorem test_wf_source : (Instr.light { order [] with source := 31 }).wellFormed = false := by decide +kernel
theorem test_wf_dest : (Instr.rest { order [] with dest := 0x48 }).wellFormed = false := by decide +kernel
theorem test_wf_length : (Instr.select (order (List.replicate 23 0))).wellFormed = false := by decide +kernel
theorem test_wf_all_flag : (Instr.unlock (order [0, 1])).wellFormed = false := by decide +kernel
theorem test_wf_no_all_flag : (Instr.unlockAll (order [0, 0])).wellFormed = false := by decide +kernel
theorem test_wf_record : (Instr.queryWear (order [2, 0])).wellFormed = false := by decide +kernel
theorem test_wf_status_record : (Instr.queryStatus (order [10, 0])).wellFormed = false := by decide +kernel
theorem test_wf_age_address : (Instr.peerAgeOut 0).wellFormed = false := by decide +kernel
theorem test_wf_sample : (Instr.oneSecondTick 201).wellFormed = false := by decide +kernel
theorem test_wf_port : (Instr.lockReport 7).wellFormed = false := by decide +kernel
theorem test_wf_signal_port : (Instr.signalPresenceReport 0 true).wellFormed = false := by decide +kernel

/-! ## The manual's worked examples -/

/-- R2: the check of the nine ASCII digits 1 to 9. -/
theorem test_check_digits :
    frameCheck [0x31, 0x32, 0x33, 0x34, 0x35, 0x36, 0x37, 0x38, 0x39] = 0x29B1 := by decide +kernel

/-- R115's table. -/
theorem test_clamp_table :
    [clampPair ⟨12, -6⟩, clampPair ⟨35, 20⟩, clampPair ⟨-90, 10⟩, clampPair ⟨0, 127⟩, clampPair ⟨20, -15⟩] =
      [⟨12, -6⟩, ⟨35, 3⟩, ⟨-40, 0⟩, ⟨0, 30⟩, ⟨20, -15⟩] := by decide +kernel

/-- R116: from (35, 3), kh by 1 is held at 3 and kv by −1 gives (34, 3). -/
theorem test_nudge_example :
    let s : State := { hall with geometry := { Geometry.reset with current := ⟨35, 3⟩ } }
    ((nudgeHorizontal 1 s).1.geometry.current, (nudgeHorizontal 1 s).2, (nudgeVertical (-1) s).1.geometry.current,
      (nudgeVertical (-1) s).2) = (⟨35, 3⟩, .adjusted, ⟨34, 3⟩, .done) := by decide +kernel

/-- R131: SET MODE at authority 1 and SHOW at authority 3 under an effective level of 4. -/
theorem test_lockout_examples :
    let s : State := { hall with lockout := { Lockout.reset with floor := 4 } }
    (s.lockoutCheck 1 (orderMinAuthority .setMode) (orderLockable .setMode),
      s.lockoutCheck 3 (orderMinAuthority .showPicture) (orderLockable .showPicture)) =
      (some .authority, some .locked) := by decide +kernel

/-- R77's weights, in sixteenths: 9, 16 and 22, and 4 more with a hot housing. -/
theorem test_weights :
    [secondWeight (some .eco) false, secondWeight (some .full) true, secondWeight none false] = [9, 26, 16] := by decide +kernel

/-- R80: 900 at 1799 s and when unknown, 300 at 1800 s. -/
theorem test_strike_charges : [strikeCharge none, strikeCharge (some 1799), strikeCharge (some 1800)] = [900, 900, 300] := by
  decide +kernel

/-! ## One step of each kind of command -/

/-- LIGHT and POWER in DARK: a strike of cause ORDER, or KEY; PREHEAT of 5 s. -/
theorem test_light : after (fun t => (t.lamp.state, t.lamp.cause, t.lamp.timer, waiting t))
    (exec (.light (order [])) hall) = some (.preheat, .order, some 5000, [[0x10, 9, 1], beaconBytes
      { hall.beacon with lamp := .preheat, cause := .order }]) := by decide +kernel
theorem test_power_key : after (fun t => (t.lamp.state, t.lamp.cause)) (exec .powerKey hall) =
    some (.preheat, .key) := by decide +kernel
/-- REST in LIT, lit by the schedule: COOLDOWN of 90 s, an extinction, the declined flag. -/
theorem test_rest : after (fun t => (t.lamp.state, t.lamp.timer, t.wear.sinceExtinction, t.duty.declined))
    (exec (.rest (order [])) (lampIn .lit .schedule)) = some (.cooldown, some 90000, some 0, true) := by decide +kernel
theorem test_set_mode : after (fun t => (t.lamp.requested, (waiting t).head?)) (exec (.setMode (order [2])) hall) =
    some (.full, some [0x12, 9, 0]) := by decide +kernel
theorem test_select : after (fun t => (t.router.selection, t.router.current, t.router.inFlightPort))
    (exec (.select (order [63])) shown) = some (.switching, some 63, some 6) := by decide +kernel
theorem test_source_key : after (fun t => t.router.current)
    (exec .sourceKey { shown with router := { shown.router with signal := Vector.replicate 6 true } }) =
    some (some 63) := by decide +kernel
theorem test_alias_clear : after (fun t => (t.router.selection, t.router.table[1], t.store.inFlight.map (·.record)))
    (exec (.aliasClear (order [2])) shown) = some (.noSource, none, some (.aliasAt 1)) := by decide +kernel
theorem test_set_keystone : after (fun t => (t.geometry.current, t.geometry.inFlight.map (·.number)))
    (exec (.setKeystone (order [0xA6, 10])) hall) = some (⟨-40, 0⟩, some 1) := by decide +kernel
/-- R117 at kv 40 and at kh −30 on the default raster, 1920 by 1200. -/
theorem test_corners : (cornersOf 1920 1200 ⟨40, 0⟩).topLeft = (192, 0) ∧
    (cornersOf 1920 1200 ⟨40, 0⟩).topRight = (1727, 0) ∧ (cornersOf 1920 1200 ⟨0, -30⟩).bottomLeft = (0, 1079) ∧
    retainedWidth 1920 ⟨40, 0⟩ = 800 := by decide +kernel
theorem test_lock : after (fun t => (t.lockout.stack, t.level)) (exec (.lock (order [6, 0x02, 0xD0])) hall) =
    some ([{ level := 6, holder := 2, minutes := some 720 }], 6) := by decide +kernel
theorem test_unlock_all : after (fun t => t.lockout.stack.map (·.level))
    (exec (.unlockAll { order [0, 1] with authority := 3 })
      { hall with lockout := { Lockout.reset with stack := [⟨1, 2, none⟩, ⟨3, 2, none⟩, ⟨4, 2, none⟩] } }) =
    some [4] := by decide +kernel
theorem test_minute_tick : after (fun t => t.lockout.stack) (exec .minuteTick
      { hall with
        lockout := { Lockout.reset with stack := [⟨1, 2, some 1⟩, ⟨3, 2, some 2⟩, ⟨4, 2, none⟩], minuteDue := true } }) =
    some [⟨3, 2, some 1⟩, ⟨4, 2, none⟩] := by decide +kernel
/-- R137: the sixtieth tick makes the minute tick due. -/
theorem test_sixtieth_tick : after (fun t => (t.lockout.minuteCount, t.lockout.minuteDue))
    (exec (.oneSecondTick 20) { hall with lockout := { Lockout.reset with minuteCount := 59 } }) = some (0, true) := by
  decide +kernel
/-- An entry of Monday 00:00 to 24:00 at level 3 that asks for a lamp of group 0, written while the clock stands there:
it governs, sets the floor and strikes. -/
theorem test_entry_write : after (fun t => (t.schedule.governing, t.lockout.floor, t.lamp.state, t.lamp.cause))
    (exec (.entryWrite (order [31, 1, 0, 0, 0x05, 0xA0, 0, 1, 0, 255, 255, 3]))
      { hall with schedule := { Schedule.reset with valid := true } }) =
    some (some (31, 0), 3, .preheat, .schedule) := by decide +kernel
theorem test_time_set : after (fun t => (t.schedule.day, t.schedule.minute, t.schedule.second, t.schedule.valid))
    (exec (.timeSet (order [6, 0x05, 0x9F, 59])) hall) = some (6, 1439, 59, true) := by decide +kernel
/-- The last second of Sunday: Monday 00:00:00, and the boundary is due. -/
theorem test_tick_wraps : after (fun t => (t.schedule.day, t.schedule.minute, t.schedule.second, t.schedule.boundaryDue))
    (exec (.oneSecondTick 20)
      { hall with schedule := { Schedule.reset with day := 6, minute := 1439, second := 59, valid := true } }) = some (0, 0, 0, some (0, 0)) := by decide +kernel
/-- A lamp second of 22 sixteenths on a residue of 15: E rises by 2, residue 5. -/
theorem test_tick_weighs : after (fun t => (t.wear.record.equivalent, t.wear.record.residue, t.wear.record.litSeconds))
    (exec (.oneSecondTick 20) { lampIn .lit .order with
      lamp := { (lampIn .lit .order).lamp with tickLamp := .lit, tickMode := .full }
      wear := { Wear.reset with record := { WearRecord.zero with residue := 15 } } }) = some (2, 5, 1) := by decide +kernel
theorem test_trip : after (fun t => (t.lamp.state, t.latched .thermalTrip, (waiting t).head?))
    (exec (.oneSecondTick 95) (lampIn .lit .order)) = some (.cooldown, true, some [2, 0, 95]) := by decide +kernel
theorem test_ignition : after (fun t => (t.lamp.state, t.wear.record.equivalent, t.wear.record.strikes))
    (exec .ignition (lampIn .ignite .order)) = some (.warmup, 900, 1) := by decide +kernel
theorem test_third_attempt : after (fun t => (t.lamp.state, t.latched .ignitionFailed, t.wear.sinceExtinction))
    (exec .attemptRunsOut { lampIn .ignite .order with lamp := { (lampIn .ignite .order).lamp with attempts := 2 } }) =
    some (.cooldown, true, none) := by decide +kernel
theorem test_dropout : after (fun t => (t.lamp.state, (waiting t).head?)) (exec .dropout (lampIn .lit .key)) =
    some (.cooldown, some [1, 0, 4]) := by decide +kernel
theorem test_held_strike : after (fun t => (t.lamp.state, t.lamp.cause)) (exec .cooldownTimer
      { lampIn .cooldown .noCause with lamp := { (lampIn .cooldown .noCause).lamp with heldStrike := some .key } }) =
    some (.preheat, .key) := by decide +kernel
theorem test_lock_report : after (fun t => (t.router.selection, t.router.port, t.router.searchTimer))
    (exec (.lockReport 2)
      { shown with router := { shown.router with selection := .switching, inFlightPort := some 2, port := none } }) = some (.searching, some 2, some 10000) := by decide +kernel
/-- Source 63 falls back on 2, whose port is dark, and on to 1. -/
theorem test_fallback : after (fun t => (t.router.current, t.latched .noSignal, (waiting t).head?))
    (exec .searchTimer
      { shown with
        router :=
          { shown.router with
            selection := .searching
            current := some 63
            port := some 6
            searchTimer := some 0
            signal := Router.reset.signal.set 0 true } }) = some (some 1, true, some [4, 63, 6]) := by
  decide +kernel
theorem test_applied : after (fun t => t.handoffBusy) (exec (.applied 1) (makeCurrent ⟨1, 1⟩ hall)) = some false := by
  decide +kernel
/-- The second silence gives up the pair (35, −3). -/
theorem test_handoff_timer : after (fun t => (t.handoffBusy, (waiting t).head?)) (exec .handoffTimer
      { hall with geometry := { Geometry.reset with
          timer := some 0
          inFlight := some { number := 1, corners := cornersOf 1920 1200 ⟨35, -3⟩, sends := 2 } } }) =
    some (false, some [5, 35, 0xFD]) := by decide +kernel
theorem test_sent : after (fun t => waiting t) (exec .frameSent
      { joinQueue (frame2 .notice 0 [1, 0, 4]) false hall with
        line := { (joinQueue (frame2 .notice 0 [1, 0, 4]) false hall).line with attempt := some 0 } }) = some [] := by
  decide +kernel
theorem test_beacon_clash : after (fun t => (t.line.state, t.line.queue)) (exec (.frameDiscarded
      { frame2 .answer 0 [0, 0, 0] with source := 5 }.bytes) hall) = some (.clash, []) := by decide +kernel
theorem test_cue : after (fun t => t.router.current) (exec (.cueReceived (frame2 .cue 1 [0, 1]).bytes)
      { shown with store := { shown.store with settings := { Settings.default with follow := 1 } } }) =
    some (some 1) := by decide +kernel
theorem test_acknowledge : after (fun t => (t.conditions, (waiting t).head?)) (exec (.acknowledge (order [0x01, 0x01]))
      { hall with conditions := 0x103#9 }) = some (0x002#9, some [0x60, 9, 0, 0, 2]) := by decide +kernel
/-- WEAR of a lamp never extinguished since reset: seconds since extinction 0xFFFFFF (1.10). -/
theorem test_query_wear : after waiting (exec (.queryWear (order [1, 0])) hall) =
    some [[0x61, 9, 0, 0, 0, 0, 0, 0, 0, 0, 0, 0, 0, 0, 0, 0xFF, 0xFF, 0xFF, 0]] := by decide +kernel
theorem test_unknown_order : after waiting (exec (.unknownOrder 0x13 (order [])) hall) = some [[0x13, 9, 10]] := by
  decide +kernel
theorem test_restart : after (fun t => (t.store.restartPending, t.line.queue.map (·.forRestart)))
    (exec (.restart (order [])) hall) = some (true, [true]) := by decide +kernel
/-- A settings record that fails its check: STORE FAULT of record kind 0, and the wear record is read next. -/
theorem test_read_fails : after (fun t => (t.latched .storeFault, t.reading, t.store.list))
    (exec (.readAnswered [1, 2, 3]) { State.reset with released := true }) =
    some (true, some .wear, [.settings]) := by decide +kernel
/-- R178, R179: a first failed write is marked again and, with nothing else listed, written again. -/
theorem test_write_timeout : after (fun t => (t.store.retry, t.store.inFlight.map (·.record), t.store.list))
    (exec .writeTimeout { hall with now := 50, store := { hall.store with inFlight := some ⟨.wear, [], 50⟩ } }) =
    some ([.wear], some .wear, []) := by decide +kernel
/-- R180: an answer at 50 ms is taken; one after it fails the record, STORE FAULT. -/
theorem test_read_late :
    let s (now : Nat) : State := { hall with now := now, store := { Store.reset with readTimer := some 50 } }
    [50, 51].map (fun now => after (fun t => (t.latched .storeFault, t.reading))
      (exec (.readAnswered (withCheck (settingsBytes Settings.default))) (s now))) =
      [some (false, some .wear), some (true, some .wear)] := by decide +kernel
/-- R147: a clock set between the tick and its MINUTE_BOUNDARY leaves the CLOCK the boundary's own, with second 0. -/
theorem test_boundary_clock : after waiting (exec .minuteBoundary
      { hall with
        line := { hall.line with timeReference := true }
        schedule :=
          { Schedule.reset with
            day := 3, minute := 700, second := 42, valid := true, boundaryDue := some (6, 1439) } }) =
    some [[6, 0x05, 0x9F, 0]] := by decide +kernel
/-- R179: a confirmation at 50 ms counts, one after it or a late one of an earlier WRITE does not. -/
theorem test_write_confirmed :
    let s (now : Nat) : State :=
      { hall with now := now, store := { hall.store with inFlight := some ⟨.wear, [], 50⟩ } }
    [after (fun t => t.store.inFlight.isNone) (exec (.writeConfirmed false) (s 50)),
      after (fun t => t.store.inFlight.isNone) (exec (.writeConfirmed false) (s 51)),
      after (fun t => t.store.inFlight.isNone) (exec (.writeConfirmed true) (s 50))] =
      [some true, some false, some false] := by decide +kernel
/-- R31: a record of 6999 ms stays, one of 7000 ms goes. -/
theorem test_peer_age_out :
    let r : PeerRecord := { address := 2, beacon := hall.beacon, heardAt := 0 }
    let s (now : Nat) : State :=
      { hall with now := now, peers := { Peers.reset with table := Peers.reset.table.set 0 (some r) } }
    [after (fun t => t.peers.table[0].isNone) (exec (.peerAgeOut 2) (s 6999)),
      after (fun t => t.peers.table[0].isNone) (exec (.peerAgeOut 2) (s 7000))] = [some false, some true] := by
  decide +kernel
/-- R76, R86: with the margin at the life limit, 500 h, the life state is LIFE LOW from E = 0. -/
theorem test_margin_at_limit :
    lifeStateOf { Settings.default with ratedHours := 500, marginHours := 500 } 0 = .lifeLow ∧
      lifeStateOf { Settings.default with ratedHours := 501, marginHours := 500 } 0 = .noLife := by decide +kernel
/-- How a run starts: reset is released, and the first command waits in the queue. -/
theorem test_run_from_reset : after (fun t => (t.released, t.line.address, t.line.timeReference, t.pending))
    (step { State.reset with pending := [.resetRelease 5 true, .powerKey] }) = some (true, 5, true, [.powerKey]) := by
  decide +kernel
theorem test_fetch_word : State.reset.withFetchWord 8 0x10 = State.reset := by decide +kernel

/-! ## What the witnesses use -/

/-- `Delivered`, as a test. -/
def delivers (o : OrderFrame) (s : State) : Bool :=
  s.released && !s.line.skipping && sourceOk o.source && destOk o.dest && o.source != s.line.address &&
    s.line.state == .active

/-- `Reaches`, as a test. -/
def arrives (kind : OrderKind) (o : OrderFrame) (s : State) : Bool :=
  delivers o s && (s.destined o.dest == .direct || (s.destined o.dest == .shared && !orderDirectOnly kind)) &&
    orderRefusal kind o.authority.toNat o.args s == none

theorem delivered_iff {o : OrderFrame} {s : State} : Delivered o s ↔ delivers o s = true := by
  constructor
  · rintro ⟨h1, h2, h3, h4, h5, h6⟩; simp [delivers, h1, h2, h3, h4, h5, h6]
  · intro h; simp [delivers] at h; exact ⟨h.1.1.1.1.1, h.1.1.1.1.2, h.1.1.1.2, h.1.1.2, h.1.2, h.2⟩

theorem reaches_iff {kind : OrderKind} {o : OrderFrame} {s : State} :
    Reaches kind o s ↔ arrives kind o s = true := by
  constructor
  · rintro ⟨h1, h2, h3⟩
    have h2' : s.destined o.dest = .direct ∨ (s.destined o.dest = .shared ∧ orderDirectOnly kind = false) := h2
    simp [arrives, delivered_iff.1 h1, h2', h3]
  · intro h
    simp [arrives] at h
    exact ⟨delivered_iff.2 h.1.1, h.1.2, h.2⟩

/-- A table with one filled position holds nothing else. -/
theorem only_one {α : Type} {n : Nat} {i : Fin n} {x : α} {j : Fin n} {r : α}
    (h : ((Vector.replicate n none).set i (some x))[j] = some r) : j = i ∧ r = x := by
  rw [Fin.getElem_fin, Vector.getElem_set] at h
  split at h
  · rename_i hij; exact ⟨Fin.ext hij.symm, (Option.some.inj h).symm⟩
  · simp at h

/-- An empty table holds nothing. -/
theorem none_held {α : Type} {n : Nat} {j : Fin n} {r : α} (h : (Vector.replicate n (none : Option α))[j] = some r) :
    False := by simp at h

/-- A queued frame. -/
def queued (f : Frame) (attempts : Nat) : QueuedFrame := { frame := f, attempts := attempts, forRestart := false }

/-- The hall with the given queue and attempt. -/
def queueing (queue : List QueuedFrame) (attempt : Option Nat) (held : Option (List Byte)) : State :=
  { hall with line := { hall.line with queue := queue, attempt := attempt, heldUpdate := held } }

/-- A NOTICE and a BEACON of station 5. -/
def notice5 : Frame := { cls := 1, source := 5, dest := 0x80, kind := .notice, authority := 0, payload := [1, 0, 4] }
/-- See `notice5`. -/
def beacon5 : Frame := { cls := 3, source := 5, dest := 0x80, kind := .beacon, authority := 0, payload := [1] }

/-- A beacon of a dark projector with 4000 h left. -/
def beacon2 : Beacon := { hall.beacon with offer := some 7 }
/-- Its record. -/
def peer2 : PeerRecord := { address := 2, beacon := beacon2, heardAt := 0 }
/-- The hall with that record in position 14. -/
def knowing : State := { hall with peers := { Peers.reset with table := Peers.reset.table.set 14 (some peer2) } }

/-! ## A concrete case for every statement with hypotheses -/

theorem witness_StepRunsTheFrontCommand : ({ hall with pending := [.powerKey] } : State).pending = .powerKey :: [] :=
  rfl
theorem witness_IdleStepsAndHeldReset : hall.pending = [] ∧ hall.released = true ∧ State.reset.released = false ∧
    Instr.listenEnd ≠ .powerOn ∧ Instr.listenEnd ≠ .resetPin ∧ (∀ a r, Instr.listenEnd ≠ .resetRelease a r) :=
  ⟨rfl, rfl, rfl, nofun, nofun, nofun⟩
theorem witness_ResetsAndTheirRelease :
    (let s : State := { queueing [queued notice5 0] none none with store := { hall.store with restartPending := true } }
     s.released = true ∧ s.store.restartPending = true ∧ (∀ q ∈ s.line.queue, q.forRestart = false) ∧
       s.store.list = [] ∧ s.store.inFlight = none) ∧
    hall.store.restartPending = false ∧
    (∃ q ∈ (queueing [{ queued notice5 0 with forRestart := true }] none none).line.queue, q.forRestart = true) ∧
    (mark .wear hall).store.list ≠ [] ∧ (beginWrite (mark .wear hall)).store.inFlight ≠ none ∧
    State.reset.released = false := by decide +kernel
/-- The lowest and the highest address. -/
theorem witness_BeaconingBeginsAndRepeats :
    (∀ a ∈ [1#5, 30#5], let s : State := { hall with line := { hall.line with state := .listen, address := a } }
      s.released = true ∧ s.line.state = .listen ∧ s.line.address ≠ 0 ∧ s.line.address ≠ 31 ∧ s.line.queue = [] ∧
        s.line.attempt = none) ∧
    hall.line.state ≠ .listen ∧ State.reset.line.address = 0 ∧ hall.peers.beaconTimer = none ∧
    (let s : State := { hall with peers := { Peers.reset with beaconTimer := some 2000 } }
     s.released = true ∧ s.line.state = .active ∧ s.peers.beaconTimer ≠ none) := by decide +kernel
/-- The second of three frames is chosen; the same key does not defeat it, the next lower does. -/
theorem witness_ArbitrationChoosesAndDecides :
    let s := queueing [queued beacon5 0, queued notice5 1, queued notice5 0] none none
    let q := queued notice5 1
    s.released = true ∧ s.line.state = .active ∧ s.line.attempt = none ∧ s.line.skipping = false ∧
      s.line.queue[1]? = some q ∧ (∀ r ∈ s.line.queue, q.frame.cls.toNat ≤ r.frame.cls.toNat) ∧
      (∀ j < 1, ∀ r ∈ s.line.queue[j]?, q.frame.cls.toNat < r.frame.cls.toNat) ∧
      (∀ k ∈ [0x45#8].head?, q.frame.arbitrationByte.toNat ≤ k.toNat) ∧
      (∃ k ∈ [0x44#8], k.toNat < q.frame.arbitrationByte.toNat) := by decide +kernel
/-- Counts 0, 2 and 3, and a held update beside a queue of 8. -/
theorem witness_AttemptsEndInThreeWays :
    let s := queueing [queued notice5 2, queued notice5 3] (some 0) none
    let t := queueing (queued beacon5 0 :: List.replicate 7 (queued notice5 0)) (some 0) (some [2])
    s.released = true ∧ s.line.attempt = some 0 ∧ 0 < s.line.queue.length ∧ s.line.heldUpdate = none ∧
      s.line.queue[0]? = some (queued notice5 2) ∧ (queued notice5 2).attempts < 3 ∧
      s.line.queue[1]? = some (queued notice5 3) ∧ 3 ≤ (queued notice5 3).attempts ∧
      t.line.heldUpdate = some [2] ∧ t.line.state = .active ∧ t.line.queue.length ≤ 8 ∧
      (∀ q ∈ t.line.queue.eraseIdx 0, q.frame.kind ≠ .beacon) ∧
      (let u := queueing [queued beacon5 3] (some 0) (some [2])
       u.line.queue[0]? = some (queued beacon5 3) ∧ 3 ≤ (queued beacon5 3).attempts ∧ u.line.heldUpdate = some [2]) := by
  decide +kernel
/-- Queues of 7 and 8, with and without a BEACON, an empty and a filled log. -/
theorem witness_QueueTakesOfferedFrames :
    let s := queueing (List.replicate 7 (queued notice5 0)) none none
    let t := queueing (List.replicate 8 (queued notice5 0)) none none
    let u := queueing [queued notice5 0, queued beacon5 0] (some 1) none
    State.reset.line.state ≠ .active ∧ s.line.state = .active ∧ s.line.queue.length < 8 ∧ 8 ≤ t.line.queue.length ∧
      (∀ q ∈ t.line.queue, q.frame.kind ≠ .beacon) ∧ (∀ q ∈ s.line.queue, q.frame.kind ≠ .beacon) ∧
      u.line.queue[1]? = some (queued beacon5 0) ∧ (queued beacon5 0).frame.kind = .beacon ∧
      (∀ j < 1, ∀ r ∈ u.line.queue[j]?, r.frame.kind ≠ .beacon) ∧ u.line.attempt = some 1 ∧
      s.line.attempt ≠ some 1 ∧ s.line.failure = none ∧ s.latched .transmitFailed = false ∧
      s.store.settings.noticeMask.getLsbD 2 = true := by decide +kernel
/-- Payload lengths 25 and 24, the latter without its bytes. -/
theorem witness_DiscardedFramesChangeNothing :
    hall.released = true ∧ hall.line.skipping = false ∧ readFrame [0x42, 0x80, 0x50, 25] = .overlong ∧
      readFrame [0x42, 0x80, 0x50, 24] = .bad ∧
      (∀ f ∈ [frame2 .order 0 [0x10], frame2 .beacon 0 [1, 0], frame2 .answer 0 [0x10, 9, 0], frame2 .notice 0 [1, 0, 4]],
        readFrame f.bytes = .frame f ∧ f.source ≠ hall.line.address) ∧
      lengthSuits .order [0x10] = false ∧ lengthSuits .beacon [1, 0] = false := by decide +kernel
theorem witness_ClashIsEnteredAndKept :
    let f : Frame := { frame2 .cue 0 [0, 1] with source := 5 }
    let s : State := { hall with line := { hall.line with state := .clash } }
    hall.released = true ∧ hall.line.skipping = false ∧ readFrame f.bytes = .frame f ∧ f.source = hall.line.address ∧
      hall.line.state ≠ .clash ∧ s.line.state = .clash ∧ f.source = s.line.address ∧
      exec .minuteTick s = .next s ∧ s.pending = [] ∧
      (let o : OrderFrame := { order [] with source := 5 }
       orderCarried (.light o) = some (.light, o) ∧ sourceOk o.source = true ∧ destOk o.dest = true ∧
         o.source = hall.line.address) :=
  ⟨rfl, rfl, by decide +kernel, rfl, nofun, rfl, rfl, rfl, rfl, rfl, rfl, rfl, rfl⟩
/-- A known address in position 14, a new address with position 0 empty, and a full table. -/
theorem witness_PeerTableFollowsBeacons :
    let f := frame2 .beacon 0 (beaconBytes beacon2)
    let full : State := { hall with peers := { Peers.reset with table := Vector.replicate 15 (some { peer2 with address := 3 }) } }
    let bad := frame2 .beacon 0 (beaconBytes { beacon2 with level := 8 })
    (hall.released = true ∧ hall.line.skipping = false ∧ readFrame f.bytes = .frame f ∧ f.source ≠ hall.line.address ∧
      f.kind = .beacon ∧ lengthSuits f.kind f.payload = true ∧ parseBeacon f.payload = some beacon2) ∧
    (knowing.peers.table[(14 : Fin 15)] = some peer2 ∧ peer2.address = f.source ∧
      (∀ (j : Fin 15) (r : PeerRecord), knowing.peers.table[j] = some r → r.address = f.source → j = 14)) ∧
    (hall.peers.table[(0 : Fin 15)] = none ∧ (∀ j : Fin 15, j < 0 → hall.peers.table[j] ≠ none) ∧
      (∀ (j : Fin 15) (r : PeerRecord), hall.peers.table[j] = some r → r.address ≠ f.source)) ∧
    (∀ j : Fin 15, ∃ r, full.peers.table[j] = some r ∧ r.address ≠ f.source) ∧
    (readFrame bad.bytes = .frame bad ∧ parseBeacon bad.payload = none) ∧
    (peer2.heardAt + 7000 ≤ 7000 ∧ 6999 < peer2.heardAt + 7000) := by
  refine ⟨by decide +kernel, ⟨by decide +kernel, rfl, fun j r h _ => (only_one h).1⟩,
    ⟨by decide +kernel, by decide +kernel, fun j r h => (none_held h).elim⟩,
    fun j => ⟨{ peer2 with address := 3 }, by simp, by decide⟩, by decide +kernel, by decide⟩
theorem witness_ConditionLatchesOnce : hall.latched .thermalTrip = false ∧
    ({ hall with conditions := 4 } : State).latched .thermalTrip = true ∧ Condition.storeFault ≠ .thermalTrip := by
  decide +kernel
/-- The fields of a beacon at their greatest values. -/
theorem witness_FramesAndBeaconsRoundTrip :
    let b : Beacon := { beacon2 with offer := some 7, wearKey := 200000, source := 63, level := 7, summary := 0x07FF }
    let f := frame2 .notice 7 (List.replicate 24 255)
    ((∀ g ∈ b.offer, g ≤ 7) ∧ b.wearKey ≤ 200000 ∧ b.source ≤ 63 ∧ b.level ≤ 7 ∧ b.summary &&& 0xF800#16 = 0#16) ∧
    (sourceOk f.source = true ∧ destOk f.dest = true ∧ f.payload.length ≤ 24 ∧ ([0, 0] : List Byte).length = 2 ∧
      [0, 0] ≠ bytesOf 2 (frameCheck f.body).toNat) := by decide +kernel
/-- Sunday 23:59:59, each field one beyond, and the clock as it stands. -/
theorem witness_SettingTheClock :
    let f (p : List Byte) : Frame := frame2 .clock 0 p
    let good : List Byte := [6, 0x05, 0x9F, 59]
    (∀ p ∈ [good, [7, 0, 0, 0], [0, 0x05, 0xA0, 0], [0, 0, 0, 60]],
      readFrame (f p).bytes = .frame (f p) ∧ (f p).source ≠ hall.line.address ∧ (f p).kind = .clock) ∧
    hall.released = true ∧ hall.line.skipping = false ∧ (0x05#8).toNat * 256 + (0x9F#8).toNat ≤ 1439 ∧
    1439 < (0x05#8).toNat * 256 + (0xA0#8).toNat ∧
    (let s : State := { hall with schedule := { Schedule.reset with valid := true } }
     s.schedule.valid = true ∧ s.schedule.day = 0 ∧ s.schedule.minute = 0) ∧ hall.schedule.valid = false ∧
    arrives .timeSet (order good) hall = true := by decide +kernel
/-- Group 7 followed, sources 1 and 63, authority one above the level and at it. -/
theorem witness_CueIsFollowed :
    let s : State := { hall with
      lockout := { Lockout.reset with floor := 6 }
      store := { hall.store with settings := { Settings.default with follow := 0x80 } } }
    let f (a : BitVec 3) (g n : Byte) : Frame := frame2 .cue a [g, n]
    (∀ n ∈ [1#8, 63#8, 0#8, 64#8], readFrame (f 7 7 n).bytes = .frame (f 7 7 n)) ∧ s.released = true ∧
      s.line.skipping = false ∧ (f 7 7 1).source ≠ s.line.address ∧ s.line.state ≠ .listen ∧
      s.store.settings.follow.getLsbD 7 = true ∧ s.level < (7#3).toNat ∧ s.store.settings.follow.getLsbD 6 = false ∧
      (6#3).toNat ≤ s.level ∧ State.reset.line.state = .listen := by decide +kernel
/-- A direct and a broadcast order refused by range and by the lock. -/
theorem witness_RefusedOrderOnlyAnswers :
    let locked : State := { hall with lockout := { Lockout.reset with floor := 7 } }
    let all : OrderFrame := { order [] with dest := 0x80 }
    (Delivered (order []) locked ∧ locked.judges .light (order []) ∧
      orderRefusal .light 7 [] locked = some .locked ∧ locked.direct (order []) = true) ∧
    (Delivered all locked ∧ locked.judges .light all ∧ locked.direct all = false) ∧
    orderRefusal .select 7 [64] hall = some .range ∧ orderCarried (.light (order [])) = some (.light, order []) := by
  simp only [delivered_iff, State.judges]
  decide +kernel
theorem witness_OrdersNotTakenHere :
    let r : OrderFrame := { order [] with dest := 0x80 }
    (({ hall with line := { hall.line with skipping := true } } : State).line.skipping = true ∧
      (order []).source ≠ hall.line.address ∧ State.reset.line.state ≠ .active ∧
      hall.destined 0x06 = .notOurs ∧ hall.destined 0x41 = .notOurs ∧ hall.destined 0x80 = .shared ∧
      orderDirectOnly .restart = true) ∧
    orderOfCode 0x13 = none ∧ Delivered (order []) hall ∧ Delivered r hall ∧ hall.direct (order []) = true ∧
    hall.direct r = false := by
  simp only [delivered_iff]
  decide +kernel
/-- Authority one below the minimum and at it; at the level and one above. -/
theorem witness_LockoutJudgesInTwoSteps :
    let s : State := { hall with lockout := { stack := [⟨3, 2, none⟩], floor := 4, minuteCount := 0, minuteDue := false } }
    1 < 2 ∧ 2 ≤ 4 ∧ 4 ≤ max (topLevel s.lockout.stack) s.lockout.floor ∧
      max (topLevel s.lockout.stack) s.lockout.floor < 5 := by decide +kernel
theorem witness_LightActsByLampState :
    let barred (l : LampState) : State := { lampIn l .noCause with conditions := 1 }
    (∀ l ∈ [LampState.dark, .cooldown], arrives .light (order []) (lampIn l .noCause) = true ∧
      (lampIn l .noCause).barred = false ∧ arrives .light (order []) (barred l) = true ∧ (barred l).barred = true) ∧
    (∀ l ∈ [LampState.preheat, .ignite, .warmup, .lit], arrives .light (order []) (lampIn l .schedule) = true ∧
      lampOn l = true) := by decide +kernel
theorem witness_RestEndsInCooldown :
    ∀ l ∈ [LampState.dark, .preheat, .ignite, .warmup, .lit, .cooldown],
      arrives .rest (order []) (lampIn l .noCause) = true := by decide +kernel
theorem witness_ModeAndPictureOrders :
    (∀ m ∈ [PowerMode.eco, .normal, .full], arrives .setMode (order [byteOf (modeCode m)]) hall = true) ∧
      arrives .showPicture (order []) hall = true ∧ arrives .blank (order []) hall = true ∧
      (let s : State := { hall with lamp := { hall.lamp with requested := .full, housing := some 80 } }
       s.lamp.requested = .full ∧ s.hot = true ∧ hall.lamp.requested ≠ .full ∧
         ({ s with lamp := { s.lamp with housing := some 79 } } : State).hot = false) := by decide +kernel
theorem witness_SelectionFollowsTheTable :
    shown.router.lookup 3 = none ∧ shown.router.lookup 63 = some sourceC ∧ shown.router.selection = .settled ∧
      shown.router.current = some 2 ∧ hall.router.selection = .noSource ∧
      (beginSwitch 2 none shown).router.selection = .switching ∧ (beginSearch (some 2) shown).router.selection = .searching ∧
      arrives .select (order [63]) shown = true ∧ (takeSelect 63 shown).2 = .started ∧ (takeSelect 2 shown).2 ≠ .started := by
  decide +kernel

/-- A router that holds one source, number 2 on port 2, at position 15. -/
def lone : State :=
  { hall with
    router :=
      { Router.reset with
        table := (Vector.replicate 16 none).set 15 (some sourceB)
        selection := .switching
        current := some 2
        inFlightPort := some 2 } }

/-- The bytes of `sourceB` on another port, which replace it, and of a source of its own fallback. -/
theorem witness_AliasPositionsAreWrittenAndCleared :
    let e : AliasEntry := { sourceB with port := 3 }
    let own : AliasEntry := { sourceB with fallback := some 2 }
    let full : State := { hall with router := { Router.reset with table := Vector.replicate 16 (some sourceC) } }
    (arrives .aliasWrite (order (aliasBytes e)) lone = true ∧ aliasOf (aliasBytes e) = some e ∧
      e.fallback ≠ some e.source ∧ lone.router.table[(15 : Fin 16)] = some sourceB ∧ sourceB.source = e.source ∧
      sourceB.port ≠ e.port ∧ lone.router.current = some e.source ∧ lone.router.selection ≠ .noSource ∧
      (∀ (j : Fin 16) (x : AliasEntry), lone.router.table[j] = some x → x.source = e.source → j = 15)) ∧
    (arrives .aliasWrite (order (aliasBytes own)) lone = true ∧ aliasOf (aliasBytes own) = some own ∧
      own.fallback = some own.source) ∧
    (hall.router.table[(0 : Fin 16)] = none ∧ (∀ j : Fin 16, j < 0 → hall.router.table[j] ≠ none) ∧
      (∀ (j : Fin 16) (x : AliasEntry), hall.router.table[j] = some x → x.source ≠ e.source) ∧
      hall.router.current ≠ some e.source) ∧
    ((∀ (j : Fin 16) (x : AliasEntry), full.router.table[j] = some x → x.source ≠ e.source) ∧
      (∀ j : Fin 16, full.router.table[j] ≠ none)) ∧
    (arrives .aliasClear (order [2]) lone = true ∧ arrives .aliasClear (order [3]) hall = true ∧
      lone.router.pendingTarget = none) := by
  refine ⟨⟨by decide +kernel, by decide +kernel, by decide, by decide +kernel, rfl, by decide, rfl, nofun,
    fun j x h _ => (only_one h).1⟩, by decide +kernel, ⟨by decide +kernel, by decide +kernel,
    fun j x h => (none_held h).elim, nofun⟩, ⟨fun j x h => ?_, fun j h => ?_⟩, by decide +kernel⟩
  · have : x = sourceC := by simpa using h.symm
    subst this; decide
  · simp at h
/-- Clearing the source of the switch in flight begins the switch to a pending target; clearing the target drops it. -/
theorem witness_AliasClear_pending :
    let s : State := { hall with router := { wired with selection := .switching, current := some 63, pendingTarget := some 2 } }
    arrives .aliasClear (order [63]) s = true ∧ arrives .aliasClear (order [2]) s = true ∧
      s.router.current = some 63 ∧ s.router.selection = .switching ∧ s.router.pendingTarget = some 2 ∧
      s.router.lookup 2 = some sourceB ∧ s.router.table[(2 : Fin 16)] = some sourceC ∧
      s.router.table[(1 : Fin 16)] = some sourceB ∧
      (∀ n ∈ [2, 63], ((List.finRange 16).filter fun j => s.router.table[j].any fun x => x.source == n).length = 1) := by
  decide +kernel
theorem witness_SetKeystoneClampsThePair : arrives .setKeystone (order [0x80, 0x7F]) hall = true := by decide +kernel
theorem witness_KeystoneBecomesCurrent : hall.geometry.inFlight = none ∧
    (makeCurrent ⟨0, 0⟩ hall).geometry.inFlight ≠ none := by decide +kernel
/-- Both axes, from (35, 3), with steps of 16 and −16. -/
theorem witness_NudgeMovesOneAxis :
    let s : State := { hall with geometry := { Geometry.reset with current := ⟨35, 3⟩ } }
    (∀ args ∈ [[0, 16], [0, 0xF0], [1, 16], [1, 0xF0]], arrives .nudgeKeystone (order args) s = true) ∧
      s.geometry.current.ok = true := by decide +kernel
theorem witness_PresetsAreStoredAndRecalled :
    let s : State := { hall with geometry := { Geometry.reset with presets := Geometry.reset.presets.set 3 (some ⟨1, 2⟩) } }
    arrives .storePreset (order [byteOf 3]) hall = true ∧ arrives .recallPreset (order [byteOf 3]) s = true ∧
      s.geometry.presets[(3 : Fin 4)] = some ⟨1, 2⟩ ∧ arrives .recallPreset (order [byteOf 0]) s = true ∧
      s.geometry.presets[(0 : Fin 4)] = none := by decide +kernel
theorem witness_CornersLieInsideTheRaster : (⟨40, 0⟩ : Keystone).ok = true ∧ (⟨0, -30⟩ : Keystone).ok = true ∧
    640 ≤ 4096 ∧ 480 ≤ 2400 := by decide +kernel

/-- The hall with a lock stack. -/
def locked (stack : List LockEntry) : State := { hall with lockout := { Lockout.reset with stack := stack } }

/-- Levels 7 over 6, 2 over 2, a fifth entry, and a free stack. -/
theorem witness_LockIsPushedInThreeSteps :
    let four := [⟨1, 2, none⟩, ⟨2, 2, none⟩, ⟨3, 2, none⟩, ⟨4, 2, none⟩]
    arrives .lock { order [7, 0, 0] with authority := 6 } hall = true ∧
      arrives .lock (order [4, 0, 1]) (locked four) = true ∧ arrives .lock (order [5, 0x02, 0xD0]) (locked four) = true ∧
      arrives .lock (order [7, 0, 0]) hall = true := by decide +kernel
theorem witness_UnlockRemovesTheNamedEntry :
    let s := locked [⟨1, 2, none⟩, ⟨7, 2, none⟩]
    (∀ v ∈ [0#8, 1, 2, 7], arrives .unlock { order [v, 0] with authority := 6 } s = true) ∧
      arrives .unlock (order [0, 0]) hall = true ∧ (0#8).getLsbD 0 = false ∧
      (s.lockout.stack.Pairwise fun a b => a.level < b.level) ∧ s.lockout.stack.getLast? = some ⟨7, 2, none⟩ := by
  decide +kernel
theorem witness_UnlockAllRemovesARun :
    let s := locked [⟨1, 2, none⟩, ⟨7, 2, none⟩]
    (∀ a ∈ [2#3, 7], arrives .unlock { order [0, 1] with authority := a } s = true) ∧ (1#8).getLsbD 0 = true ∧
      (s.lockout.stack.Pairwise fun a b => a.level < b.level) ∧ (∀ e ∈ s.lockout.stack, e.level ≤ 7) := by
  decide +kernel
theorem witness_MinuteTickLowersTheMinutes :
    let s := locked [⟨1, 2, some 1⟩, ⟨3, 2, some 2⟩, ⟨4, 2, none⟩]
    let t : State := { s with lockout := { s.lockout with minuteDue := true } }
    t.released = true ∧ t.lockout.minuteDue = true ∧ (∀ e ∈ t.lockout.stack, e.minutes ≠ some 0) ∧
      s.lockout.minuteDue = false := by decide +kernel

/-- Every day, 00:00 to 24:00, group 0, demand 1, source 1, preset 3, FULL, level 7. -/
def wholeDay : Entry :=
  { days := 0x7F, start := 0, stop := 1440, group := 0, demand := 1, source := some 1, preset := some 3,
    mode := some .full, level := some 7 }

/-- The hall at minute 1439 of Sunday with that entry in slots 0 and 31. -/
def scheduled (governing : Option (Nat × Nat)) : State :=
  { hall with
    schedule :=
      { Schedule.reset with
        day := 6
        minute := 1439
        valid := true
        boundaryDue := some (6, 1439)
        table := (Schedule.reset.table.set 0 (some wholeDay)).set 31 (some wholeDay)
        governing := governing } }

/-- Slots 0 and 31, filled and empty. -/
theorem witness_EntriesAreWrittenAndCleared :
    let s := scheduled none
    parseEntry (entryBytes wholeDay) = some wholeDay ∧
      (∀ slot ∈ [(0 : Fin 32), 31], arrives .entryWrite (order (byteOf slot :: entryBytes wholeDay)) hall = true ∧
        arrives .entryClear (order [byteOf slot]) s = true ∧ s.schedule.table[slot] ≠ none) ∧
      arrives .entryClear (order [byteOf (1 : Fin 32)]) s = true ∧ s.schedule.table[(1 : Fin 32)] = none := by
  decide +kernel
/-- Two entries alike but for their slots: the higher slot governs, up to the last minute. -/
theorem witness_GoverningEntryIsTheLatest :
    (scheduled none).entryFound = some (31, wholeDay) ∧ hall.schedule.valid = false ∧
      (let s : State := { hall with schedule := { Schedule.reset with valid := true } }
       s.entryFound = none ∧ s.schedule.valid = true) ∧
      (scheduled none).schedule.table[(0 : Fin 32)] = some wholeDay := by decide +kernel
theorem witness_ScheduleIsEvaluated :
    (scheduled (some (31, 0))).schedule.governing = some (31, 0) ∧ (scheduled none).entryFound = some (31, wholeDay) ∧
      (scheduled none).schedule.governing ≠ some (31, wholeDay.start) ∧ hall.entryFound = none ∧
      hall.schedule.governing = none ∧
      ({ hall with schedule := { hall.schedule with governing := some (0, 0) } } : State).schedule.governing ≠ none := by
  decide +kernel
theorem witness_BoundaryIsEvaluatedOnce : (scheduled none).released = true ∧
    (scheduled none).schedule.boundaryDue = some (6, 1439) ∧ (scheduled none).schedule.valid = true ∧
    hall.schedule.boundaryDue = none ∧ hall.schedule.valid = false := by decide +kernel
/-- THERMAL TRIP at 69 °C and at 70 °C. -/
theorem witness_AcknowledgeClearsTheNamed :
    ∀ t ∈ [(69 : Int), 70], arrives .acknowledge (order [0, 4])
      { hall with conditions := 4, lamp := { hall.lamp with housing := some t } } = true := by decide +kernel
/-- Records 0 and 10, with a queue of 7. -/
theorem witness_QueriesReportTheState :
    let s := queueing (List.replicate 7 (queued notice5 0)) none none
    (∀ r ∈ [0#8, 1, 2, 3, 4, 5, 6, 7, 8, 9, 10], arrives .query (order [r, 0]) s = true) ∧ s.line.queue.length < 8 ∧
      orderCarried (.queryStatus (order [0, 0])) = some (.query, order [0, 0]) ∧
      orderCarried (.querySettings (order [10, 0])) = some (.query, order [10, 0]) ∧ s.line.failure = none := by
  decide +kernel
theorem witness_WearSettingsAndRestartOrders :
    arrives .wearReset (order [2, 0x20, 0x7E]) hall = true ∧ hall.lamp.state = .dark ∧
      arrives .wearReset (order [0]) (lampIn .cooldown .noCause) = true ∧
      parseSettings (settingsBytes Settings.default) = some Settings.default ∧
      arrives .settingsWrite (order (settingsBytes Settings.default)) hall = true ∧
      arrives .restart (order []) hall = true ∧ 1 ≤ hall.store.settings.ratedHours := by decide +kernel
theorem witness_PowerBlankAndSourceKeys :
    let lit : State := { shown with router := { shown.router with signal := Vector.replicate 6 true } }
    (∀ s ∈ [hall, lampIn .cooldown .noCause], s.released = true ∧ s.barred = false ∧ s.keyPasses .light) ∧
      (∀ l ∈ [LampState.preheat, .ignite, .warmup, .lit], (lampIn l .schedule).keyPasses .rest ∧ lampOn l = true) ∧
      hall.keyPasses .blank ∧ (∀ e ∈ hall.router.table.toList.filterMap id, hall.router.signalOn e.port = false) ∧
      lit.keyPasses .select ∧ lit.router.nextSource = some 63 ∧ (takeSelect 63 lit).2 = .started ∧
      lit.router.referencePoint < 63 := by
  simp only [State.keyPasses]
  decide +kernel
/-- At a keypad authority of 2, from the limits' edge and inside it; at 1; and barred. -/
theorem witness_KeystoneKeysAndRefusals :
    let s : State := { hall with store := { hall.store with settings := { Settings.default with keypadAuthority := 2 } } }
    s.keyPasses .nudgeKeystone ∧ (⟨0, 1⟩ : Keystone).ok = true ∧ (⟨-1, 0⟩ : Keystone).ok = true ∧
      hall.store.settings.keypadAuthority < 2 ∧ ({ hall with conditions := 1 } : State).barred = true ∧
      ({ hall with lockout := { Lockout.reset with floor := 1 } } : State).level = hall.store.settings.keypadAuthority ∧
      hall.refusedTimer = none ∧ ({ hall with refusedTimer := some 0 } : State).refusedTimer = some hall.now ∧
      s.geometry.current.ok = true ∧ lampOn (lampIn .preheat .order).lamp.state = true ∧
      ({ shown with router := { shown.router with signal := Vector.replicate 6 true } } : State).router.nextSource ≠ none := by
  simp only [State.keyPasses]
  decide +kernel
theorem witness_StageTimersAndCooldownsEnd :
    let held : State :=
      { lampIn .cooldown .noCause with lamp := { (lampIn .cooldown .noCause).lamp with heldStrike := some .order } }
    let sensed : State := { lampIn .preheat .order with lamp := { (lampIn .preheat .order).lamp with sense := true } }
    let gap : State := { lampIn .ignite .order with lamp := { (lampIn .ignite .order).lamp with inGap := true } }
    (lampIn .preheat .order).lamp.sense = false ∧ sensed.lamp.sense = true ∧ sensed.lamp.state = .preheat ∧
      gap.lamp.inGap = true ∧ gap.lamp.sense = false ∧ gap.lamp.state = .ignite ∧ (senseAppears (lampIn .preheat .order)).lamp.sense = true ∧
      ({ gap with lamp := { gap.lamp with sense := true } } : State).lamp.sense = true ∧
      (lampIn .warmup .order).lamp.state = .warmup ∧ held.lamp.timer ≠ none ∧ held.lamp.state = .cooldown ∧
      held.barred = false ∧ ({ held with conditions := 2 } : State).barred = true := by decide +kernel

/-- The hall with its lamp in IGNITE after the given failed attempts, at the given E. -/
def igniting (attempts equivalent : Nat) : State :=
  { lampIn .ignite .order with
    lamp := { (lampIn .ignite .order).lamp with attempts := attempts }
    wear := { Wear.reset with record := { WearRecord.zero with equivalent := equivalent } } }

/-- Attempts 1 and 2, and E just below and at the expiry limit of 4300 h after the charge of 60, and of 900. -/
theorem witness_AttemptsAndIgnitionAreCharged :
    (∀ n ∈ [0, 1, 2], (igniting n 0).lamp.inGap = false ∧ (igniting n 0).lamp.state = .ignite) ∧
      lifeStateOf Settings.default (15479939 + 60) = .lifeOut ∧ lifeStateOf Settings.default (15479940 + 60) = .expired ∧
      lifeStateOf Settings.default (15479099 + 900) = .lifeOut ∧ lifeStateOf Settings.default (15479100 + 900) = .expired ∧
      hall.lamp.state ≠ .ignite ∧
      (after (fun t => (t.lamp.state, t.lamp.attempts)) (exec .attemptRunsOut (igniting 0 15479940)) =
        some (.cooldown, 0)) ∧
      Settings.default.ratedHours * 3600 < 13680001 + Settings.default.marginHours * 3600 ∧
      13680000 + Settings.default.marginHours * 3600 ≤ Settings.default.ratedHours * 3600 := by decide +kernel
theorem witness_DropoutAndTripRestTheLamp :
    (lampIn .warmup .order).lamp.state = .warmup ∧ (lampIn .lit .order).lamp.state = .lit ∧
      lampBurning (lampIn .ignite .order).lamp.state = false ∧ hall.latched .thermalTrip = false ∧
      ({ hall with conditions := 4 } : State).latched .thermalTrip = true ∧ lampOn LampState.preheat = true ∧
      (95 : Int) ≤ 95 ∧ (94 : Int) < 95 := by decide +kernel
theorem witness_TickCountsTheSecond : hall.released = true ∧ hall.lamp.state = .dark ∧
    (lampIn .lit .order).released = true ∧ (lampIn .lit .order).lamp.state = .lit := ⟨rfl, rfl, rfl, rfl⟩
theorem witness_SwitchesEndByReportOrTimer :
    let s : State := { hall with router := { wired with selection := .switching, current := some 63, inFlightPort := some 6, switchTimer := some 0 } }
    let t : State := { s with router := { s.router with pendingTarget := some 1 } }
    s.router.switchTimer = some 0 ∧ 0 ≤ s.now ∧ s.router.selection = .switching ∧ s.router.inFlightPort = some 6 ∧ s.router.pendingTarget = none ∧
      s.router.signalOn 6 = false ∧
      ({ s with router := { s.router with signal := s.router.signal.set 5 true } } : State).router.signalOn 6 = true ∧
      t.router.pendingTarget = some 1 ∧ t.router.lookup 1 = some sourceA ∧ hall.router.selection ≠ .switching ∧
      s.router.signal[(5 : Fin 6)] = false ∧ shown.router.port = some ((1 : Fin 6).val + 1) ∧
      shown.router.selection = .settled ∧ (beginSearch (some 2) shown).router.selection = .searching ∧
      (beginSearch (some 2) shown).router.port = some 2 ∧ shown.router.port ≠ some ((0 : Fin 6).val + 1) ∧
      hall.router.selection = .noSource := by
  decide +kernel
/-- From 63 over 2 to 1, each in turn with signal, and 1 without a fallback. -/
theorem witness_SearchTimerTriesTheFallbacks :
    let s : State := { hall with router := { wired with selection := .searching, current := some 63, port := some 6, searchTimer := some 0 } }
    s.router.searchTimer = some 0 ∧ 0 ≤ s.now ∧ hall.router.selection ≠ .searching ∧ s.router.selection = .searching ∧ s.router.lookup 63 = some sourceC ∧ sourceC.fallback = some 2 ∧
      s.router.lookup 2 = some sourceB ∧ sourceB.fallback = some 1 ∧ s.router.lookup 1 = some sourceA ∧
      sourceA.fallback = none ∧ (∀ p ∈ [1, 2, 6], s.router.signalOn p = false) ∧
      (∀ p ∈ [(0 : Fin 6), 1], (wired.signal.set p true)[p] = true) ∧
      (let four : AliasEntry := { sourceA with source := 4, port := 4, fallback := some 63 }
       let r : Router := { wired with table := wired.table.set 3 (some four) }
       r.lookup 4 = some four ∧ four.fallback = some 63) ∧ hall.router.lookup 2 = none ∧
      (let r : Router := { wired with table := wired.table.set 0 none }
       r.lookup 63 = some sourceC ∧ r.lookup 2 = some sourceB ∧ sourceB.fallback = some 1 ∧ r.lookup 1 = none) := by
  decide +kernel
theorem witness_HandoffEndsOrRepeats :
    let s := makeCurrent ⟨1, 1⟩ hall
    let f : FlightSet := { number := 1, corners := cornersOf 1920 1200 ⟨1, 1⟩, sends := 1 }
    s.released = true ∧ s.geometry.timer = some 200 ∧ s.now < 200 ∧ 200 ≤ ({ s with now := 200 } : State).now ∧
      s.geometry.inFlight = some f ∧ f.number = (1#8).toNat ∧ f.number ≠ (2#8).toNat ∧ f.sends = 1 ∧
      ({ f with sends := 2 } : FlightSet).sends ≠ 1 ∧ (makeCurrent ⟨2, 2⟩ s).geometry.pendingSet ≠ none := by
  decide +kernel

/-- Station 5 dark, offering group 0 with a demand of 2, beside the dark station 2, which has more life left. -/
def sharing (holdoff : Option Holdoff) : State :=
  { hall with
    duty := { Duty.reset with entryGroup := some 0, entryDemand := some 2, offer := some 0, holdoff := holdoff }
    peers :=
      { Peers.reset with
        table := Peers.reset.table.set 0
          (some { peer2 with beacon := { hall.beacon with offer := some 0, wearKey := 50000 } }) } }

/-- R168: an event taken first that starts the holdoff afresh at another length puts off the running out. -/
theorem test_holdoff_restarted :
    let s (now : Nat) : State := { sharing (some ⟨2, 2000⟩) with now := now }
    [after (fun t => (t.lamp.state, t.duty.holdoff)) (exec .strikeHoldoff (evaluate (s 2000))),
      after (fun t => (t.lamp.state, t.duty.holdoff)) (exec .strikeHoldoff (s 2000))] =
      [some (.dark, some ⟨1, 3000⟩), some (.preheat, none)] := by decide +kernel
/-- R101: a lock report taken first stops the timer; the switch to the pending target runs on. -/
theorem test_switch_timer_stopped :
    let s : State :=
      { hall with
        now := 3000
        router :=
          { wired with
            selection := .switching, current := some 63, pendingTarget := some 1, inFlightPort := some 6
            switchTimer := some 3000 } }
    after (fun t => (t.router.selection, t.router.current)) (exec .switchTimer (switcherLocks 6 s)) =
      some (.switching, some 1) := by decide +kernel

theorem witness_DutyIsRankedAndDecided :
    let a : Candidate := { address := 2, lamp := .lit, cause := .schedule, wearKey := 5 }
    let b : Candidate := { address := 5, lamp := .dark, cause := .noCause, wearKey := 9 }
    lampOn a.lamp = true ∧ lampOn b.lamp = false ∧ a.address ≠ b.address ∧
      rankedBefore a b = true ∧ rankedBefore b { b with address := 6 } = true ∧
      (deriveOffer (sharing none)).duty.offer = some 0 ∧ (deriveOffer hall).duty.offer = none ∧
      (deriveOffer (sharing none)).decision = .on := by decide +kernel
/-- Dark rank 1 with the holdoff stopped, running at its length and at another; dark rank 0 alone in the hall. -/
theorem witness_HoldoffSpacesTheStrikes :
    (∀ h ∈ [none, some ⟨1, 1000⟩, some ⟨2, 2000⟩], let s := sharing h
      s.released = true ∧ s.lamp.state = .dark ∧ s.barred = false ∧ (deriveOffer s).decision = .on ∧
        s.offerNow = some 0 ∧ (deriveOffer s).darkRank 0 = 1) ∧
    (let s : State := { sharing (some ⟨1, 1000⟩) with peers := Peers.reset }
     s.duty.holdoff = some ⟨1, 1000⟩ ∧ s.now < 1000 ∧ 1000 ≤ ({ s with now := 1000 } : State).now ∧ (deriveOffer s).decision = .on ∧ s.offerNow = some 0 ∧ (deriveOffer s).darkRank 0 = 0) ∧
    (let s : State := { hall with duty := { Duty.reset with holdoff := some ⟨1, 1000⟩ } }
     s.released = true ∧ s.duty.holdoff ≠ none ∧ s.lamp.state = .dark ∧ (deriveOffer s).decision ≠ .on ∧
       hall.duty.holdoff = none) ∧
    (∀ l ∈ [LampState.preheat, .lit], (deriveOffer (lampIn l .schedule)).decision = .noDuty ∧ lampOn l = true) ∧
    (let r : PeerRecord := { peer2 with beacon := { hall.beacon with offer := some 0, wearKey := 50000, lamp := .lit } }
     let s : State :=
       { sharing none with
         duty := { (sharing none).duty with entryDemand := some 1 }
         lamp := (lampIn .lit .schedule).lamp
         peers := { Peers.reset with table := Peers.reset.table.set 0 (some r) } }
     (deriveOffer s).decision = .off ∧
       (deriveOffer { s with duty := { s.duty with entryDemand := some 2 } }).decision = .on ∧
       (deriveOffer { s with lamp := (lampIn .lit .key).lamp }).decision = .counted) := by
  decide +kernel
/-- The first record, the one before the last, and the last; and the contents each owner takes and refuses, E one below
and at the bound of R89, 4300 h and 900 s. -/
theorem witness_LoadTakesTheRecordsInTurn :
    let s (i : Nat) : State := { hall with store := { Store.reset with loadIndex := i } }
    let timed (i : Nat) : State := { hall with now := 50, store := { Store.reset with loadIndex := i, readTimer := some 50 } }
    (∀ i ∈ [0, 49], (s i).released = true ∧ (s i).store.loadIndex < 50) ∧ loadSequence[0]? = some .settings ∧
      loadSequence[49]? = some (.entryAt 31) ∧ loadSequence[50]? = some .geometry ∧ loadSequence.length = 51 ∧
      (∀ i ∈ [0, 49, 50], (timed i).store.readTimer = some 50 ∧ 50 ≤ (timed i).now ∧ (timed i).released = true ∧
        (timed i).store.loadIndex = i ∧ (timed i).geometry.inFlight = none ∧ 50 < ({ timed i with now := 51 } : State).now) ∧
      (s 0).store.readTimer = none ∧ checkedContent [1, 2] = none ∧ (s 50).store.loadIndex = 50 ∧ (s 50).geometry.inFlight = none ∧
      parseGeometry [40, 0, 0, 0, 0, 1, 0, 0xE2] = some (⟨40, 0⟩, #v[none, none, none, some ⟨0, -30⟩]) ∧
      parseGeometry [40, 1, 0, 0, 0, 0] = none ∧ loadSequence[1]? = some .wear ∧ loadSequence[2]? = some (.aliasAt 0) ∧
      loadSequence[18]? = some (.entryAt 0) ∧ parseSettings [0] = none ∧
      parseSettings (settingsBytes Settings.default) = some Settings.default ∧ parseWear [0] = none ∧
      (∀ e ∈ [15480899, 15480900], let w : WearRecord := { WearRecord.zero with equivalent := e }
        parseWear (wearContent w) = some w) ∧
      15480899 < (Settings.default.ratedHours + Settings.default.overrunHours) * 3600 + 900 ∧
      (Settings.default.ratedHours + Settings.default.overrunHours) * 3600 + 900 ≤ 15480900 ∧
      parseAlias [2] = none ∧ parseAlias [0] = some none ∧ parseAlias (aliasContent (some sourceB)) = some (some sourceB) ∧
      (Staged.default.table.toList.all fun a => a.isNone) = true ∧
      some sourceB ∈ (Staged.default.table.set 0 (some sourceB)).toList ∧ parseSlot [2] = none ∧
      parseSlot (slotContent (some wholeDay)) = some (some wholeDay) := by decide +kernel
theorem witness_WritesFollowTheList :
    let w : WriteInFlight := { record := .wear, bytes := [], due := 50 }
    let s : State := { hall with store := { hall.store with inFlight := some w } }
    let t : State := { hall with store := { hall.store with inFlight := some w, retry := [.wear] } }
    s.released = true ∧ s.store.inFlight = some w ∧ 51 ≤ s.store.loadIndex ∧ w.record ∉ s.store.retry ∧
      w.record ∈ t.store.retry ∧ s.now < w.due ∧ w.due ≤ ({ t with now := 50 } : State).now ∧ w.due < ({ s with now := 51 } : State).now ∧
      (mark .wear hall).store.list = .wear :: [] ∧ hall.store.inFlight = none ∧ hall.store.list = [] := by decide +kernel
/-- Records whose fields stand at the ends of their ranges. -/
theorem witness_StoredRecordsRoundTrip :
    let x : Settings :=
      { Settings.default with
        ratedHours := 20000, marginHours := 10, overrunHours := 1000, preheat := 2, warmup := 120, cooldown := 300,
        rasterWidth := 4096, rasterHeight := 480, keypadAuthority := 3 }
    x.ok = true ∧ sourceC.ok = true ∧ wholeDay.ok = true ∧ (⟨40, 0⟩ : Keystone).ok = true ∧
      (4294967295 ≤ Config.counterMax) ∧ ([0x20#8, 0x7E].all printable = true) ∧
      (∀ p ∈ (Vector.replicate 4 (some (⟨0, 30⟩ : Keystone))).toList.filterMap id, p.ok = true) := by decide +kernel

/-- An ACTIVE station whose last offered image is its beacon; a key that changes the beacon. -/
theorem witness_BeaconImageIsCurrent :
    let s : State := { hall with peers := { Peers.reset with image := some hall.beaconNow } }
    (s.line.state = .active ∧ s.peers.image = some s.beaconNow) ∧
      after (fun t => (t.line.state, decide (t.beaconNow ≠ s.beaconNow), (waiting t).length))
        (step { s with pending := [.powerKey] }) = some (.active, true, 1) := by decide +kernel
/-- The hall keeps every law, and a step of it answers. -/
theorem witness_laws_of_the_hall :
    QueueLaw hall.line ∧ LogLaw hall ∧ LampLaw hall ∧ DutyLaw hall ∧ StoreLaw hall.store := by
  refine ⟨?_, ?_, ?_, ?_, ?_⟩
  · exact ⟨by decide, by decide, by decide, by decide, nofun, fun h => absurd rfl h⟩
  · exact ⟨by decide, by decide⟩
  · exact ⟨by decide, by decide, by decide, nofun, by decide, by decide, by decide, by decide, by decide, by decide⟩
  · exact ⟨by decide, by decide, by decide, nofun⟩
  · exact ⟨by decide, by decide, by decide⟩
theorem witness_TableLawsAreKept : TableLaw hall := by
  refine ⟨by unfold distinctKeys; decide +kernel, ?_, by unfold distinctKeys; decide +kernel,
    by unfold distinctKeys; decide +kernel, ?_, ?_, by decide, by decide, ?_, ?_, by decide, by decide⟩
  all_goals
    intro _ h
    revert h
    simp [hall, State.reset, Peers.reset, Schedule.reset, Geometry.reset, Store.reset, Staged.default]
theorem witness_step_of_the_hall : after (fun t => t.lamp.state) (step { hall with pending := [.powerKey] }) =
    some .preheat := by decide +kernel
theorem witness_LockStackLawIsKept :
    let s := locked [⟨1, 2, none⟩, ⟨2, 2, none⟩, ⟨3, 2, none⟩, ⟨7, 2, none⟩]
    s.lockout.stack.length ≤ 4 ∧ (s.lockout.stack.Pairwise fun a b => a.level < b.level) := by decide +kernel

end Sys2Proof.Tests
end

section
/-! SUPPORT. A lock stack of rising levels (R130), and what the Lockout Unit answers to each of its orders (R134 to
R136). -/

namespace Sys2Proof.Machine

/-! ## Stacks of rising levels -/

section Rising

variable {stack : List LockEntry} (h : stack.Pairwise fun a b => a.level < b.level)
include h

theorem rising_nodup_levels : (stack.map LockEntry.level).Nodup :=
  List.pairwise_map.2 (h.imp Nat.ne_of_lt)

/-- A level names one entry. -/
theorem rising_level_inj {a b : LockEntry} (ha : a ∈ stack) (hb : b ∈ stack) (hl : a.level = b.level) : a = b :=
  List.inj_on_of_nodup_map (rising_nodup_levels h) ha hb hl

theorem rising_find_level {e : LockEntry} (he : e ∈ stack) : stack.find? (fun x => x.level == e.level) = some e := by
  cases hf : stack.find? fun x => x.level == e.level with
  | none => simpa using List.find?_eq_none.1 hf e he
  | some x =>
    have hx : x.level = e.level := by simpa using List.find?_some hf
    rw [rising_level_inj h (List.mem_of_find?_eq_some hf) he hx]

/-- Dropping an entry's level drops that entry alone. -/
theorem rising_filter_level_ne {e : LockEntry} (he : e ∈ stack) :
    stack.filter (fun x => x.level != e.level) = stack.erase e := by
  rw [(List.Nodup.of_map _ (rising_nodup_levels h)).erase_eq_filter]
  refine List.filter_congr fun x hx => ?_
  have hiff : x.level = e.level ↔ x = e := ⟨rising_level_inj h hx he, congrArg LockEntry.level⟩
  simp only [bne, Bool.beq_eq_decide_eq, hiff]

end Rising

/-- The entries at or below a level are a run from the bottom. -/
theorem rising_split {stack : List LockEntry} (h : stack.Pairwise fun a b => a.level < b.level) (n : Nat) :
    stack = stack.filter (fun e => decide (e.level ≤ n)) ++ stack.filter (fun e => decide (n < e.level)) := by
  induction stack with
  | nil => rfl
  | cons x xs ih =>
    obtain ⟨hx, hxs⟩ := List.pairwise_cons.1 h
    by_cases hn : x.level ≤ n
    · simpa [hn, Nat.not_lt.2 hn] using ih hxs
    · have habove : ∀ e ∈ xs, n < e.level := fun e he => (Nat.lt_of_not_le hn).trans (hx e he)
      have hnone : xs.filter (fun e => decide (e.level ≤ n)) = [] := by simpa using habove
      have hall : xs.filter (fun e => decide (n < e.level)) = xs := by simpa using habove
      simp [hn, Nat.lt_of_not_le hn, hnone, hall]

/-! ## The top of the stack and the named entry -/

theorem topLevel_append_singleton (stack : List LockEntry) (e : LockEntry) : topLevel (stack ++ [e]) = e.level := by
  simp [topLevel]

theorem namedLock_zero (stack : List LockEntry) : namedLock stack 0 = stack.getLast? := rfl

theorem namedLock_of_ne_zero {v : Nat} (hv : v ≠ 0) (stack : List LockEntry) :
    namedLock stack v = stack.find? fun e => e.level == v := by simp [namedLock, hv]

/-- The naming of R135: the entry of the level, or for level 0 the top entry. -/
def Named (stack : List LockEntry) (v : Nat) (e : LockEntry) : Prop :=
  e ∈ stack ∧ (v = e.level ∨ (v = 0 ∧ stack.getLast? = some e))

theorem named_of_namedLock {stack : List LockEntry} {v : Nat} {e : LockEntry} (h : namedLock stack v = some e) :
    Named stack v e := by
  by_cases hv : v = 0
  · rw [hv, namedLock_zero] at h
    subst hv
    exact ⟨List.mem_of_getLast? h, .inr ⟨rfl, h⟩⟩
  · rw [namedLock_of_ne_zero hv] at h
    have hl : e.level = v := by simpa using List.find?_some h
    exact ⟨List.mem_of_find?_eq_some h, .inl hl.symm⟩

/-- In a stack of rising levels from 1 the search finds the entry that R135 names. -/
theorem namedLock_of_named {stack : List LockEntry} {v : Nat} {e : LockEntry}
    (hs : stack.Pairwise fun a b => a.level < b.level) (h : Named stack v e) (he : 1 ≤ e.level) :
    namedLock stack v = some e := by
  obtain ⟨hm, rfl | ⟨rfl, hlast⟩⟩ := h
  · rw [namedLock_of_ne_zero (Nat.ne_of_gt he), rising_find_level hs hm]
  · rw [namedLock_zero, hlast]

/-! ## What the Lockout Unit answers -/

/-- The three checks of a LOCK (R134): the result of the first that fails. -/
def lockRefusal (level authority : Nat) (stack : List LockEntry) : Option Result :=
  if authority < level then some .range
  else if stack ≠ [] ∧ level ≤ topLevel stack then some .conflict
  else if Config.stackSize ≤ stack.length then some .full
  else none

theorem takeLock_eq (level duration authority holder : Nat) (s : State) :
    takeLock level duration authority holder s =
      match lockRefusal level authority s.lockout.stack with
      | some r => (s, r)
      | none =>
        (withStack (s.lockout.stack ++ [{ level := level, holder := holder, minutes := ofZeroAbsent duration }]) s,
          .done) := by
  unfold takeLock lockRefusal
  split
  · rfl
  split
  · rfl
  split <;> rfl

theorem takeUnlock_unnamed {v authority : Nat} {s : State} (h : namedLock s.lockout.stack v = none) :
    takeUnlock v authority s = (s, .conflict) := by simp [takeUnlock, h]

theorem takeUnlock_above {v authority : Nat} {s : State} {e : LockEntry} (h : namedLock s.lockout.stack v = some e)
    (ha : authority < e.level) : takeUnlock v authority s = (s, .authority) := by simp [takeUnlock, h, ha]

theorem takeUnlock_named {v authority : Nat} {s : State} {e : LockEntry}
    (hs : s.lockout.stack.Pairwise fun a b => a.level < b.level) (h : namedLock s.lockout.stack v = some e)
    (ha : e.level ≤ authority) : takeUnlock v authority s = (withStack (s.lockout.stack.erase e) s, .done) := by
  obtain ⟨hm, -⟩ := named_of_namedLock h
  simp [takeUnlock, h, Nat.not_lt.2 ha, rising_filter_level_ne hs hm]

/-! ## Orders that reach the Lockout Unit -/

theorem announce_of_ne_select {kind : OrderKind} (h : kind ≠ .select) (t : Taken) (r : Result) (s : State) :
    announce kind t r s = s := by
  unfold announce
  split
  · exact absurd rfl h
  · rfl

/-- An owner's result without data, for an order that announces nothing and is no RESTART, is its answer. -/
theorem orderTaken_plain {kind : OrderKind} {o : OrderFrame} {s : State} {x : State × Result} (hs : kind ≠ .select)
    (hr : kind ≠ .restart)
    (h : ownerTakes kind { args := o.args, authority := o.authority.toNat, origin := some o.source } s = plain x) :
    orderTaken kind o s = answer (s.direct o) false kind.code o x.2 [] x.1 := by
  have hk : (kind == .restart) = false := beq_false_of_ne hr
  simp only [orderTaken, h, announce_of_ne_select hs, plain, hk, Bool.false_and]

theorem orderTaken_lock {o : OrderFrame} {v d1 d0 : Byte} {s : State} {x : State × Result} (h : o.args = [v, d1, d0])
    (hx : takeLock v.toNat (numberOf [d1, d0]) o.authority.toNat o.source.toNat s = x) :
    orderTaken .lock o s = answer (s.direct o) false 0x40 o x.2 [] x.1 :=
  orderTaken_plain nofun nofun (by rw [h, ← hx]; rfl)

theorem orderTaken_unlock {o : OrderFrame} {v flags : Byte} {s : State} {x : State × Result} (h : o.args = [v, flags])
    (hf : flags.getLsbD 0 = false) (hx : takeUnlock v.toNat o.authority.toNat s = x) :
    orderTaken .unlock o s = answer (s.direct o) false 0x41 o x.2 [] x.1 :=
  orderTaken_plain nofun nofun (by simp only [ownerTakes, h, hf, ← hx]; rfl)

theorem orderTaken_unlockAll {o : OrderFrame} {v flags : Byte} {s : State} (h : o.args = [v, flags])
    (hf : flags.getLsbD 0 = true) :
    orderTaken .unlock o s = answer (s.direct o) false 0x41 o .done []
      (withStack (s.lockout.stack.filter fun e => decide (o.authority.toNat < e.level)) s) :=
  orderTaken_plain (x := takeUnlockAll o.authority.toNat s) nofun nofun (by simp [ownerTakes, h, hf])

end Sys2Proof.Machine
end

section
/-! The statements about the Lockout Unit's orders (R134 to R136). -/

namespace Sys2Proof.Machine

/-- Settles O29, by the three checks of `takeLock_eq`. -/
theorem lockIsPushedInThreeSteps : Obligations.LockIsPushedInThreeSteps := by
  intro o v d1 d0 s h hargs refusal duration pushed
  have hchecks : lockRefusal v.toNat o.authority.toNat s.lockout.stack = refusal := rfl
  have hduration : numberOf [d1, d0] = duration := by simp [numberOf, duration]
  have htake := takeLock_eq v.toNat (numberOf [d1, d0]) o.authority.toNat o.source.toNat s
  have hpushed : withStack (s.lockout.stack ++
      [{ level := v.toNat, holder := o.source.toNat, minutes := ofZeroAbsent (numberOf [d1, d0]) }]) s = pushed := by
    rw [hduration]
    rfl
  rw [hchecks, hpushed] at htake
  refine ⟨fun r hr => ?_, fun hnone => ⟨?_, ?_⟩⟩
  · rw [hr] at htake
    exact effects_of_order rfl h (orderTaken_lock hargs htake)
  · rw [hnone] at htake
    exact effects_of_order rfl h (orderTaken_lock hargs htake)
  · simp [State.level, pushed, topLevel_append_singleton]

/-- Settles O30: the search of R135 finds the named entry, which is the only one of its level. -/
theorem unlockRemovesTheNamedEntry : Obligations.UnlockRemovesTheNamedEntry := by
  intro o v flags s h hargs hflag hrising named
  refine ⟨fun hno => ?_, fun e he hpos habove => ?_, fun e he hpos hle => ?_⟩
  · have hnone : namedLock s.lockout.stack v.toNat = none :=
      Option.eq_none_iff_forall_ne_some.2 fun e he => hno e (named_of_namedLock he)
    exact effects_of_order rfl h (orderTaken_unlock hargs hflag (takeUnlock_unnamed hnone))
  · have hfound := namedLock_of_named hrising he hpos
    exact effects_of_order rfl h (orderTaken_unlock hargs hflag (takeUnlock_above hfound habove))
  · have hfound := namedLock_of_named hrising he hpos
    exact effects_of_order rfl h (orderTaken_unlock hargs hflag (takeUnlock_named hrising hfound hle))

/-- Settles O31: a stack of rising levels splits at the order's authority. -/
theorem unlockAllRemovesARun : Obligations.UnlockAllRemovesARun := by
  intro o v flags s h hargs hflag hrising htop
  refine ⟨_, _, rising_split hrising o.authority.toNat, ?_, ?_, fun h7 => ?_,
    effects_of_order rfl h (orderTaken_unlockAll hargs hflag)⟩
  · exact fun e he => by simpa using List.of_mem_filter he
  · exact fun e he => by simpa using List.of_mem_filter he
  · simpa [h7] using htop

end Sys2Proof.Machine
end

section
/-! SUPPORT. What one step can do, said once: every command is a chain of elementary changes (`Change`, and those of the
Store and of Shared Duty), then what follows it (`settle`). Each law that every step keeps is a case split over these
changes. -/

namespace Sys2Proof.Machine

/-! ## The laws that a guard names -/

/-- At most 4 lock entries, their levels rising (R130). -/
def StackLaw (stack : List LockEntry) : Prop :=
  stack.length ≤ Config.stackSize ∧ stack.Pairwise fun a b => a.level < b.level

/-- Current keystone and presets within the limits (R114). -/
def KeystoneLaw (current : Keystone) (presets : Vector (Option Keystone) 4) : Prop :=
  current.ok = true ∧ ∀ k, some k ∈ presets.toList → k.ok = true

/-- Schedule entries within their ranges (R148). -/
def EntriesLaw (table : Vector (Option Entry) 32) : Prop := ∀ e, some e ∈ table.toList → e.ok = true

/-- Peers with distinct addresses, none the station's own (R26). -/
def PeersLaw (own : BitVec 5) (table : Vector (Option PeerRecord) 15) : Prop :=
  distinctKeys PeerRecord.address table.toList ∧ ∀ r, some r ∈ table.toList → r.address ≠ own

/-- Alias entries with distinct hall source numbers (R93). -/
def AliasLaw (table : Vector (Option AliasEntry) 16) : Prop := distinctKeys AliasEntry.source table.toList

/-- The laws of the tables a load has read so far. -/
def StagedTables (x : Staged) : Prop := AliasLaw x.table ∧ EntriesLaw x.entries ∧ KeystoneLaw x.keystone x.presets

/-- The wear that a load has read so far, `n` records into the load (R84, R89). -/
def StagedWear (n : Nat) (x : Staged) : Prop :=
  x.wear.residue ≤ 15 ∧ x.wear.equivalent < x.settings.expiryLimit + 900 ∧ (n ≤ 1 → x.wear = WearRecord.zero)

/-- One of the three conditions that bar strikes (R59). -/
def lampFault : Condition → Bool
  | .ignitionFailed => true
  | .thermalTrip => true
  | .lampOut => true
  | _ => false

/-- The causes that an order or a key gives a strike (R60, R61). -/
def LitCause.ordered (c : LitCause) : Prop := c = .order ∨ c = .key

/-! ## The elementary changes -/

/-- The elementary changes of the part, each with what holds where the part makes it. -/
inductive Change (s : State) : State → Prop
  | offer (f : Frame) (m : Bool) (h : f.kind ≠ .beacon) : Change s (offerMarked f m s)
  | latch (c : Condition) (d : Nat) (h : c ≠ .transmitFailed) (hl : lampFault c = true → lampOn s.lamp.state = false) :
      Change s (latch c d s)
  | fault (c : Condition) (d : Nat) (h : c ≠ .transmitFailed) (hl : lampOn s.lamp.state = true) :
      Change s (enterCooldown (Machine.latch c d s))
  | clear (c : Condition) : Change s (clearCondition c s)
  | clash : Change s (enterClash s)
  | skip (b : Bool) : Change s (s.withLine { s.line with skipping := b })
  | attempt (i : Nat) (hi : i < s.line.queue.length) (ha : s.line.state = .active) (hn : s.line.attempt = none) :
      Change s (s.withLine { s.line with attempt := some i })
  | sends : Change s (attemptSends s)
  | fails : Change s (attemptFails s)
  | peers (x : Vector (Option PeerRecord) 15)
      (h : PeersLaw s.line.address s.peers.table → PeersLaw s.line.address x) :
      Change s (s.withPeers { s.peers with table := x })
  | refused (x : Option Nat) : Change s (s.withRefusedTimer x)
  | strike (c : LitCause) (hc : c.ordered ∨ s.lamp.heldStrike = some c) (hb : s.barred = false)
      (hs : s.lamp.state = .dark ∨ s.lamp.state = .cooldown ∧ s.lamp.timer.isSome = true) : Change s (enterPreheat c s)
  | stage (x : Lamp) (hs : lampOn s.lamp.state = true) (hx : lampOn x.state = true) (hc : x.cause = s.lamp.cause)
      (hh : x.heldStrike = s.lamp.heldStrike) : Change s (s.withLamp x)
  | cool (h : lampOn s.lamp.state = true) : Change s (enterCooldown s)
  | dark (hs : s.lamp.state = .cooldown) (ht : s.lamp.timer.isSome = true) :
      Change s (s.withLamp { s.lamp with state := .dark, timer := none, heldStrike := none })
  | hold (x : Option LitCause) (hs : s.lamp.state = .cooldown) (hx : ∀ c, x = some c → c.ordered) :
      Change s (s.withLamp { s.lamp with heldStrike := x })
  | recause (c : LitCause) (hs : lampOn s.lamp.state = true) (hc : c.ordered) : Change s (s.withLamp { s.lamp with cause := c })
  | lampAside (x : Lamp) (hs : x.state = s.lamp.state) (ht : x.timer = s.lamp.timer) (hc : x.cause = s.lamp.cause)
      (hh : x.heldStrike = s.lamp.heldStrike) : Change s (s.withLamp x)
  | since (x : Option Nat) : Change s (s.withWear { s.wear with sinceExtinction := x })
  | charge (r : WearRecord) (hs : lampOn s.lamp.state = true)
      (hr : s.wear.record.residue ≤ 15 → r.residue ≤ 15 ∧ r.equivalent ≤ s.wear.record.equivalent + 900) : Change s (restExpired (s.withWear { s.wear with record := r }))
  | account (label : List Byte) : Change s (s.withWear { s.wear with record := { WearRecord.zero with label := label } })
  | route (x : Router) (h : x.table = s.router.table) : Change s (s.withRouter x)
  | aliases (x : Vector (Option AliasEntry) 16) (h : AliasLaw s.router.table → AliasLaw x) :
      Change s (s.withRouter { s.router with table := x })
  | geometry (x : Geometry) (h : KeystoneLaw s.geometry.current s.geometry.presets → KeystoneLaw x.current x.presets) :
      Change s (s.withGeometry x)
  | lockout (x : Lockout) (h : StackLaw s.lockout.stack → StackLaw x.stack) : Change s (s.withLockout x)
  | schedule (x : Schedule) (h : EntriesLaw s.schedule.table → EntriesLaw x.table) : Change s (s.withSchedule x)
  | declined (b : Bool) (h : b = true → s.lamp.cause ≠ .schedule) : Change s (s.withDuty { s.duty with declined := b })
  | dutyEntry (group demand : Nat) : Change s (takeDutyEntry (some group) (some demand) s)
  | mark (r : RecordId) : Change s (mark r s)
  | storeAside (x : Store) (hl : x.list = s.store.list) (hf : x.inFlight = s.store.inFlight)
      (hi : x.loadIndex = s.store.loadIndex) (hs : x.settings = s.store.settings) (hg : x.staged = s.store.staged) :
      Change s (s.withStore x)
  | advance (x : Staged) (timer : Option Nat) (hi : s.store.loadIndex + 1 < Config.recordCount)
      (ht : StagedTables s.store.staged → StagedTables x)
      (hw : StagedWear s.store.loadIndex s.store.staged → StagedWear (s.store.loadIndex + 1) x) :
      Change s (s.withStore { s.store with staged := x, loadIndex := s.store.loadIndex + 1, readTimer := timer })

/-- The changes that leave the write-back list to be looked at again: a load's last record and the end of a write. -/
inductive MemoryChange (s : State) : State → Prop
  | commit (x : Staged) (hi : s.store.loadIndex + 1 = Config.recordCount)
      (ht : StagedTables s.store.staged → StagedTables x)
      (hw : StagedWear s.store.loadIndex s.store.staged → StagedWear (s.store.loadIndex + 1) x) :
      MemoryChange s (startCooldownTimer (commitLoad
        (s.withStore { s.store with staged := x, loadIndex := s.store.loadIndex + 1, readTimer := none })))
  | writeEnds (retry : List RecordId) : MemoryChange s (s.withStore { s.store with inFlight := none, retry := retry })

/-- An evaluation of Shared Duty, as it stands or as a governing entry ends (R162, R155). -/
inductive Evaluates (s : State) : State → Prop
  | evaluate : Evaluates s (evaluate s)
  | ends : Evaluates s (Machine.evaluate (takeDutyEntry none none s))

/-- The changes that Shared Duty makes: its evaluations, and the one at the end of a holdoff (R167). -/
inductive DutyChange (s : State) : State → Prop
  | evaluates {v : State} (h : Evaluates s v) : DutyChange s v
  | holdoff : DutyChange s (evaluateOnce true (stopHoldoff s))

/-- A chain of elementary changes. -/
abbrev Changes : State → State → Prop := Relation.ReflTransGen Change

/-- A chain of elementary changes and of those that end a load or a write. -/
abbrev MemoryChanges : State → State → Prop := Relation.ReflTransGen fun s u => Change s u ∨ MemoryChange s u

/-- An answer is offered, or none is. -/
def Answered (v u : State) : Prop := u = v ∨ ∃ (f : Frame) (m : Bool), f.kind ≠ .beacon ∧ u = offerMarked f m v

/-- What the operation of a command can do, before what follows it in the event; LISTEN_END and BEACON_PERIOD, which
offer the station's own beacon, and STRIKE_HOLDOFF stand apart. -/
inductive Does (s : State) : State → Prop
  | plain {u : State} (h : Changes s u) : Does s u
  | memory {w : State} (h : MemoryChanges s w) : Does s (beginWrite w)
  | evaluates {w v u : State} (h : Changes s w) (hd : Evaluates w v) (ha : Answered v u) : Does s u

theorem Change.one {s u : State} (h : Change s u) : Changes s u := .single h

theorem Changes.mark {s u : State} (h : Changes s u) (r : RecordId) : Changes s (Machine.mark r u) := h.tail (.mark r)

theorem Changes.memory {s u : State} (h : Changes s u) : MemoryChanges s u :=
  Relation.ReflTransGen.mono (fun _ _ => Or.inl) _ _ h

theorem Does.after {s w u : State} (h : Changes s w) : Does w u → Does s u
  | .plain hu => .plain (h.trans hu)
  | .memory hw => .memory (h.memory.trans hw)
  | .evaluates hw hd ha => .evaluates (h.trans hw) hd ha

end Sys2Proof.Machine
end

section
/-! SUPPORT. Every operation of the lamp, the router, the geometry, the schedule and the lockout is a chain of elementary
changes. -/

namespace Sys2Proof.Machine

/-! ## Tables with distinct keys -/

theorem distinctKeys_iff {α κ : Type} {n : Nat} (key : α → κ) (v : Vector (Option α) n) :
    distinctKeys key v.toList ↔ ∀ (i j : Fin n) (x y : α), i ≠ j → v[i] = some x → v[j] = some y → key x ≠ key y := by
  unfold distinctKeys List.Nodup
  rw [List.pairwise_map, List.pairwise_filterMap, List.pairwise_iff_getElem]
  simp only [id_eq, Vector.length_toList, Vector.getElem_toList]
  constructor
  · intro h i j x y hij hx hy
    rcases Nat.lt_or_gt_of_ne (Fin.val_ne_of_ne hij) with hlt | hlt
    · exact h i j i.2 j.2 hlt x hx y hy
    · exact fun e => h j i j.2 i.2 hlt y hy x hx e.symm
  · intro h i j hi hj hij x hx y hy
    exact h ⟨i, hi⟩ ⟨j, hj⟩ x y (by simp; omega) hx hy

theorem mem_toList_iff_fin {α : Type} {n : Nat} (v : Vector α n) (x : α) : x ∈ v.toList ↔ ∃ i : Fin n, v[i] = x := by
  rw [List.mem_iff_getElem]
  constructor
  · rintro ⟨i, hi, e⟩
    exact ⟨⟨i, by simpa using hi⟩, by simpa using e⟩
  · rintro ⟨i, e⟩
    exact ⟨i, by simp, by simpa using e⟩

theorem vector_set_fin {α : Type} {n : Nat} (v : Vector α n) (i j : Fin n) (x : α) :
    (v.set i x)[j] = if i = j then x else v[j] := by
  simp [Fin.getElem_fin, Vector.getElem_set, Fin.ext_iff]

theorem distinctKeys_set_none {α κ : Type} {n : Nat} {key : α → κ} {v : Vector (Option α) n} (i : Fin n)
    (h : distinctKeys key v.toList) : distinctKeys key (v.set i none).toList := by
  rw [distinctKeys_iff] at h ⊢
  intro a b x y hab hx hy
  rw [vector_set_fin] at hx hy
  split at hx <;> split at hy <;> simp at hx hy
  exact h a b x y hab hx hy

/-- A position filled with a key that no other position holds keeps the keys distinct. -/
theorem distinctKeys_set_some {α κ : Type} {n : Nat} {key : α → κ} {v : Vector (Option α) n} {i : Fin n} {r : α}
    (hr : ∀ j x, j ≠ i → v[j] = some x → key x ≠ key r) (h : distinctKeys key v.toList) :
    distinctKeys key (v.set i (some r)).toList := by
  rw [distinctKeys_iff] at h ⊢
  intro a b x y hab hx hy
  rw [vector_set_fin] at hx hy
  split at hx <;> split at hy
  · exact absurd (by simp_all) hab
  · simp only [Option.some.injEq] at hx
    subst hx
    exact fun e => hr b y (by rintro rfl; simp_all) hy e.symm
  · simp only [Option.some.injEq] at hy
    subst hy
    exact hr a x (by rintro rfl; simp_all) hx
  · exact h a b x y hab hx hy

theorem mem_toList_set {α : Type} {n : Nat} {v : Vector α n} {i : Fin n} {x y : α} (h : y ∈ (v.set i x).toList) :
    y = x ∨ y ∈ v.toList := by
  rw [mem_toList_iff_fin] at h ⊢
  obtain ⟨j, e⟩ := h
  rw [vector_set_fin] at e
  split at e
  · exact .inl e.symm
  · exact .inr ⟨j, e⟩

/-! ## Frames, notices and marks -/

theorem offer_changes (f : Frame) (m : Bool) (s : State) (h : f.kind ≠ .beacon := by nofun) :
    Changes s (offerMarked f m s) :=
  Change.one (.offer f m h)

/-- A condition that bars no strike is latched in any lamp state. -/
theorem latch_changes (c : Condition) (d : Nat) (s : State) (h : c ≠ .transmitFailed := by decide)
    (hl : lampFault c = false := by rfl) : Changes s (latch c d s) := Change.one (.latch c d h (by simp [hl]))

/-! ## The lamp -/

theorem mark_withWear (r : RecordId) (x : Wear) (s : State) : mark r (s.withWear x) = (mark r s).withWear x := by
  unfold mark
  by_cases h : r ∈ s.store.list
  · simp [h]
  · simp only [h, State.withWear_store, if_false]
    rfl

theorem judgeLifeLow_changes (s : State) : Changes s (judgeLifeLow s) := by
  unfold judgeLifeLow
  split
  · exact latch_changes _ _ _
  · exact .refl

theorem raised_le (n k : Nat) : raised n k ≤ n + k := Nat.min_le_left _ _

theorem secondWeight_le (m : Option PowerMode) (hot : Bool) : secondWeight m hot ≤ 26 := by
  unfold secondWeight
  split <;> split <;> decide

theorem lampOn_of_burning {l : LampState} (h : lampBurning l = true) : lampOn l = true := by
  cases l <;> simp_all [lampBurning, lampOn]

theorem afterCharge_changes {s : State} (r : WearRecord) (hs : lampOn s.lamp.state = true)
    (hr : s.wear.record.residue ≤ 15 → r.residue ≤ 15 ∧ r.equivalent ≤ s.wear.record.equivalent + 900) :
    Changes s (afterCharge (s.withWear { s.wear with record := r })) :=
  (Change.one (.charge r hs hr)).trans (judgeLifeLow_changes _)

theorem recordSecond_bound {w : Nat} (hw : w ≤ 26) {r : WearRecord} (h : r.residue ≤ 15) :
    (recordSecond w r).residue ≤ 15 ∧ (recordSecond w r).equivalent ≤ r.equivalent + 900 := by
  have := raised_le r.equivalent ((r.residue + w) / 16)
  simp only [recordSecond]
  omega

theorem lampSecond_changes {s : State} (h : lampBurning s.lamp.state = true) : Changes s (lampSecond s) := by
  have hw := secondWeight_le (weightState s) s.lamp.tickHot
  unfold lampSecond
  dsimp only
  split
  · rw [mark_withWear]
    refine (Change.one (.mark .wear)).trans ?_
    simpa using afterCharge_changes (s := mark .wear s) (recordSecond _ s.wear.record)
      (by simpa using lampOn_of_burning h) (by simpa using recordSecond_bound hw)
  · exact afterCharge_changes _ (lampOn_of_burning h) (recordSecond_bound hw)

theorem strikeCharge_le (n : Option Nat) : strikeCharge n ≤ 900 := by
  unfold strikeCharge
  split
  · decide
  · split <;> decide

theorem chargeIgnition_changes {s : State} (h : lampOn s.lamp.state = true) : Changes s (chargeIgnition s) :=
  afterCharge_changes _ h fun hr =>
    ⟨hr, (raised_le _ _).trans (Nat.add_le_add_left (strikeCharge_le _) _)⟩

theorem chargeFailedAttempt_changes {s : State} (h : lampOn s.lamp.state = true) :
    Changes s (chargeFailedAttempt s) :=
  afterCharge_changes _ h fun hr => ⟨hr, (raised_le _ _).trans (Nat.add_le_add_left (by decide) _)⟩

/-- The sense of the lamp, and its tick's figures, are no part of a strike. -/
theorem lampAside_changes (s : State) (x : Lamp) (hs : x.state = s.lamp.state) (ht : x.timer = s.lamp.timer)
    (hc : x.cause = s.lamp.cause) (hh : x.heldStrike = s.lamp.heldStrike) : Changes s (s.withLamp x) :=
  Change.one (.lampAside x hs ht hc hh)

theorem ignite_changes {s : State} (h : lampOn s.lamp.state = true) : Changes s (ignite s) := by
  refine Relation.ReflTransGen.trans ?_ (chargeIgnition_changes ?_)
  · exact Change.one (.stage _ h rfl rfl rfl)
  · rfl

theorem beginAttempt_changes {s : State} (h : lampOn s.lamp.state = true) : Changes s (beginAttempt s) := by
  have ht : Changes s (s.withLamp
      { s.lamp with state := .ignite, timer := some (s.now + Config.attemptTime), inGap := false }) :=
    Change.one (.stage _ h rfl rfl rfl)
  unfold beginAttempt
  split
  · exact ht.trans (ignite_changes rfl)
  · exact ht

theorem preheatEnds_changes (s : State) : Changes s (preheatEnds s) := by
  unfold preheatEnds
  split
  · exact beginAttempt_changes (by simp [*, lampOn])
  · exact .refl

theorem gapEnds_changes (s : State) : Changes s (gapEnds s) := by
  unfold gapEnds
  split
  · exact beginAttempt_changes (by simp [*, lampOn])
  · exact .refl

theorem attemptEnds_changes (s : State) : Changes s (attemptEnds s) := by
  unfold attemptEnds
  split
  case isFalse => exact .refl
  case isTrue hs =>
    have hc : Changes s (chargeFailedAttempt (s.withLamp { s.lamp with attempts := s.lamp.attempts + 1 })) := by
      refine Relation.ReflTransGen.trans ?_ (chargeFailedAttempt_changes ?_)
      · exact lampAside_changes s _ rfl rfl rfl rfl
      · simp [hs.1, lampOn]
    dsimp only
    generalize chargeFailedAttempt _ = t at hc ⊢
    split
    case isFalse => exact hc
    case isTrue ht =>
      have hon : lampOn t.lamp.state = true := by rw [ht]; rfl
      split
      · exact hc.tail (.stage _ hon hon rfl rfl)
      · exact hc.tail (.fault _ _ nofun hon)

theorem senseAppears_changes (s : State) : Changes s (senseAppears s) := by
  have ht : Changes s (s.withLamp { s.lamp with sense := true }) := lampAside_changes s _ rfl rfl rfl rfl
  unfold senseAppears
  split
  · refine ht.trans (ignite_changes ?_)
    simp [*, lampOn]
  · exact ht

theorem senseLost_changes (s : State) : Changes s (senseLost s) := by
  have ht : Changes s (s.withLamp { s.lamp with sense := false }) := lampAside_changes s _ rfl rfl rfl rfl
  unfold senseLost
  split
  · exact ht.tail (.fault _ _ nofun (lampOn_of_burning ‹_›))
  · exact ht

theorem warmupEnds_changes (s : State) : Changes s (warmupEnds s) := by
  unfold warmupEnds
  split
  · exact Change.one (.stage _ (by simp [*, lampOn]) rfl rfl rfl)
  · exact .refl

theorem cooldownEnds_changes (s : State) : Changes s (cooldownEnds s) := by
  unfold cooldownEnds
  split
  case isFalse => exact .refl
  case isTrue h =>
    split
    · rename_i c hc
      split
      · exact Change.one (.dark h.1 h.2)
      · exact Change.one (.strike c (.inr hc) (by simpa using ‹¬ s.barred = true›) (.inr h))
    · exact Change.one (.dark h.1 h.2)

theorem thermalTrip_changes (d : Int) (s : State) : Changes s (thermalTrip d s) := by
  unfold thermalTrip
  split
  · exact .refl
  split
  · exact Change.one (.fault _ _ nofun ‹_›)
  rename_i hn
  have hl : Changes s (latch .thermalTrip d.toNat s) := Change.one (.latch _ _ nofun fun _ => by simpa using hn)
  split
  · exact hl.tail (.hold none (by simpa) nofun)
  · exact hl

theorem takeSample_changes (d : Int) (s : State) : Changes s (takeSample d s) := by
  have ht : Changes s (s.withLamp { s.lamp with housing := some d }) := lampAside_changes s _ rfl rfl rfl rfl
  unfold takeSample
  split
  · exact ht.trans (thermalTrip_changes d _)
  · exact ht

theorem takeLight_changes {c : LitCause} (hc : c.ordered) (s : State) : Changes s (takeLight c s).1 := by
  have hd (u : State) : Change u (clearDeclined u) := .declined false nofun
  unfold takeLight
  split
  case h_1 hs =>
    split
    · exact .refl
    · exact (Change.one (.strike c (.inl hc) (by simpa using ‹¬ s.barred = true›) (.inl hs))).tail (hd _)
  case h_2 hs =>
    split
    · exact .refl
    · exact (Change.one (.hold (some c) hs (by simpa using hc))).tail (hd _)
  case h_3 h1 h2 =>
    have hon : lampOn s.lamp.state = true := by
      cases h : s.lamp.state <;> simp_all [lampOn]
    dsimp only
    split
    · exact (Change.one (.recause c hon hc)).tail (hd _)
    · exact Change.one (hd _)

theorem takeRest_changes (s : State) : Changes s (takeRest s).1 := by
  unfold takeRest
  split
  case h_1 => exact .refl
  case h_2 hs => exact Change.one (.hold none hs nofun)
  case h_3 h1 h2 =>
    have hon : lampOn s.lamp.state = true := by
      cases h : s.lamp.state <;> simp_all [lampOn]
    dsimp only
    split
    · exact (Change.one (.cool hon)).tail (.declined true fun _ => by simp [enterCooldown])
    · exact Change.one (.cool hon)

/-! ## The router -/

theorem beginSwitch_changes (n : Nat) (p : Option Nat) (s : State) : Changes s (beginSwitch n p s) := by
  unfold beginSwitch
  split
  · exact Change.one (.route _ rfl)
  · exact Change.one (.route _ rfl)

theorem beginSearch_changes (p : Option Nat) (s : State) : Changes s (beginSearch p s) := Change.one (.route _ rfl)

theorem settleOn_changes (p : Option Nat) (s : State) : Changes s (settleOn p s) := Change.one (.route _ rfl)

theorem takeSelect_changes (n : Nat) (s : State) : Changes s (takeSelect n s).1 := by
  unfold takeSelect
  split
  · exact .refl
  split
  · exact beginSwitch_changes _ _ _
  · split <;> exact Change.one (.route _ rfl)
  · split
    · exact .refl
    · exact beginSwitch_changes _ _ _
  · exact beginSwitch_changes _ _ _

theorem switcherLocks_changes (p : Nat) (s : State) : Changes s (switcherLocks p s) := by
  unfold switcherLocks
  split
  · split
    · exact beginSwitch_changes _ _ _
    · split
      · exact settleOn_changes _ _
      · exact beginSearch_changes _ _
  · exact .refl

theorem switchEnds_changes (s : State) : Changes s (switchEnds s) := by
  unfold switchEnds
  split
  · split
    · exact beginSwitch_changes _ _ _
    · exact beginSearch_changes _ _
  · exact .refl

theorem takeSignal_changes (p : Nat) (b : Bool) (s : State) : Changes s (takeSignal p b s) := by
  unfold takeSignal
  split
  case isFalse => exact .refl
  case isTrue =>
    have ht : Changes s (s.withRouter { s.router with signal := s.router.signal.setIfInBounds (p - 1) b }) :=
      Change.one (.route _ rfl)
    split
    · split
      · exact ht.trans (beginSearch_changes _ _)
      split
      · exact ht.trans (settleOn_changes _ _)
      · exact ht
    · exact ht

theorem searchEnds_changes (s : State) : Changes s (searchEnds s) := by
  unfold searchEnds
  split
  case isFalse => exact .refl
  case isTrue =>
    have ht : Changes s (latch .noSignal (noSignalDetail s) s) := latch_changes _ _ _
    dsimp only
    split
    · exact ht.trans (beginSwitch_changes _ _ _)
    · exact ht.tail (.route _ rfl)

/-! ## The table of hall sources -/

theorem aliasPosition_some {r : Router} {n : Nat} {i : Fin 16} (h : r.positionOf n = some i) :
    ∃ e, r.table[i] = some e ∧ e.source = n := by
  have := List.find?_some h
  split at this
  · exact ⟨_, ‹_›, by simpa using this⟩
  · simp at this

theorem aliasPosition_none {r : Router} {n : Nat} (h : r.positionOf n = none) (i : Fin 16) (e : AliasEntry)
    (he : r.table[i] = some e) : e.source ≠ n := by
  have := List.find?_eq_none.1 h i (List.mem_finRange i)
  simpa [he] using this

theorem putAlias_eq (i : Fin 16) (e : Option AliasEntry) (s : State) :
    putAlias i e s = mark (.aliasAt i) (s.withRouter { s.router with table := s.router.table.set i e }) := rfl

theorem putAlias_changes {i : Fin 16} {e : Option AliasEntry} {s : State}
    (h : AliasLaw s.router.table → AliasLaw (s.router.table.set i e)) : Changes s (putAlias i e s) :=
  (Change.one (.aliases _ h)).mark _

/-- A number written to the position that holds it, or to any when none does, stays at one position. -/
theorem aliasLaw_put {r : Router} {i : Fin 16} {e : AliasEntry}
    (hi : r.positionOf e.source = some i ∨ r.positionOf e.source = none) (h : AliasLaw r.table) :
    AliasLaw (r.table.set i (some e)) := by
  refine distinctKeys_set_some (fun j x hj hx he => ?_) h
  rcases hi with hi | hi
  · obtain ⟨old, ho, hs⟩ := aliasPosition_some hi
    exact (distinctKeys_iff _ _).1 h j i x old hj hx ho (he.trans hs.symm)
  · exact aliasPosition_none hi j x hx he

theorem afterReplace_changes (old new : AliasEntry) (s : State) : Changes s (afterReplace old new s) := by
  unfold afterReplace
  split
  · split
    · exact .refl
    all_goals exact beginSwitch_changes _ _ _
  · exact .refl

theorem afterClear_changes (n : Nat) (s : State) : Changes s (afterClear n s) := by
  unfold afterClear
  split
  · split
    · exact beginSwitch_changes _ _ _
    · exact .refl
    · exact Change.one (.route _ rfl)
  split
  · exact Change.one (.route _ rfl)
  · exact .refl

theorem takeAliasWrite_changes (e : AliasEntry) (s : State) : Changes s (takeAliasWrite e s).1 := by
  unfold takeAliasWrite
  split
  · exact .refl
  split
  case h_1 i hi =>
    have hp : Changes s (putAlias i (some e) s) := putAlias_changes (aliasLaw_put (.inl hi))
    split
    · exact hp.trans (afterReplace_changes _ _ _)
    · exact hp
  case h_2 hn =>
    split
    · exact putAlias_changes (aliasLaw_put (.inr hn))
    · exact .refl

theorem takeAliasClear_changes (n : Nat) (s : State) : Changes s (takeAliasClear n s).1 := by
  unfold takeAliasClear
  split
  · exact (putAlias_changes (distinctKeys_set_none _)).trans (afterClear_changes _ _)
  · exact .refl

/-! ## The geometry -/

/-- A change of the Geometry Unit that leaves current keystone and presets as they are. -/
theorem geometry_changes {s : State} {x : Geometry} (hc : x.current = s.geometry.current)
    (hp : x.presets = s.geometry.presets) : Changes s (s.withGeometry x) :=
  Change.one (.geometry x (by rw [hc, hp]; exact id))

theorem sendCorners_changes (c : CornerSet) (s : State) : Changes s (sendCorners c s) := geometry_changes rfl rfl

theorem produceCorners_changes (s : State) : Changes s (produceCorners s) := by
  unfold produceCorners
  dsimp only
  split
  · exact geometry_changes rfl rfl
  · exact sendCorners_changes _ _

theorem makeCurrent_changes {k : Keystone} {s : State}
    (h : KeystoneLaw s.geometry.current s.geometry.presets → k.ok = true) : Changes s (makeCurrent k s) := by
  refine Changes.mark (Relation.ReflTransGen.trans ?_ (produceCorners_changes _)) _
  exact Change.one (.geometry _ fun hk => ⟨h hk, hk.2⟩)

theorem endHandoff_changes (s : State) : Changes s (endHandoff s) := by
  unfold endHandoff
  split
  · refine Relation.ReflTransGen.trans ?_ (sendCorners_changes _ _)
    exact geometry_changes rfl rfl
  · exact geometry_changes rfl rfl

theorem takeApplied_changes (n : Nat) (s : State) : Changes s (takeApplied n s) := by
  unfold takeApplied
  split
  · split
    · exact endHandoff_changes s
    · exact .refl
  · exact .refl

theorem handoffEnds_changes (s : State) : Changes s (handoffEnds s) := by
  unfold handoffEnds
  split
  · split
    · unfold takeSilence
      split
      · exact geometry_changes rfl rfl
      · refine Relation.ReflTransGen.trans ?_ (endHandoff_changes _)
        exact latch_changes _ _ _
    · exact .refl
  · exact .refl

theorem limited_natAbs_le (m : Nat) (x : Int) : (limited m x).natAbs ≤ m := by
  unfold limited
  split
  · omega
  · split <;> omega

theorem keystone_ok_iff (k : Keystone) :
    k.ok = true ↔ k.kv.natAbs ≤ 40 ∧ k.kh.natAbs ≤ 30 ∧ 3 * k.kv.natAbs + 4 * k.kh.natAbs ≤ 120 := by
  simp [Keystone.ok]

theorem clampPair_ok (k : Keystone) : (clampPair k).ok = true := by
  rw [keystone_ok_iff]
  have h1 := limited_natAbs_le 40 k.kv
  have h2 := limited_natAbs_le 30 k.kh
  unfold clampPair
  dsimp only
  split
  · have h3 := limited_natAbs_le ((120 - 3 * (limited 40 k.kv).natAbs) / 4) (limited 30 k.kh)
    dsimp only
    omega
  · exact ⟨h1, h2, by dsimp only; omega⟩

theorem clampVertical_ok {k : Keystone} (h : k.kh.natAbs ≤ 30) : (clampVertical k).ok = true := by
  rw [keystone_ok_iff]
  have h1 := limited_natAbs_le 40 k.kv
  unfold clampVertical
  dsimp only
  split
  · have h3 := limited_natAbs_le ((120 - 4 * k.kh.natAbs) / 3) (limited 40 k.kv)
    dsimp only
    omega
  · exact ⟨h1, h, by dsimp only; omega⟩

theorem clampHorizontal_ok {k : Keystone} (h : k.kv.natAbs ≤ 40) : (clampHorizontal k).ok = true := by
  rw [keystone_ok_iff]
  have h1 := limited_natAbs_le 30 k.kh
  unfold clampHorizontal
  dsimp only
  split
  · have h3 := limited_natAbs_le ((120 - 3 * k.kv.natAbs) / 4) (limited 30 k.kh)
    dsimp only
    omega
  · exact ⟨h, h1, by dsimp only; omega⟩

theorem takeStorePreset_changes (n : Nat) (s : State) : Changes s (takeStorePreset n s).1 := by
  refine Changes.mark (Change.one (.geometry _ ?_)) _
  refine fun h => ⟨h.1, fun k hk => ?_⟩
  simp only [Vector.toList_setIfInBounds] at hk
  rcases List.mem_or_eq_of_mem_set hk with hk | hk
  · exact h.2 k hk
  · simp only [Option.some.injEq] at hk
    exact hk ▸ h.1

theorem preset_mem {g : Geometry} {n : Nat} {k : Keystone} (h : g.preset n = some k) : some k ∈ g.presets.toList := by
  unfold Geometry.preset at h
  rw [List.getD_eq_getElem?_getD] at h
  cases hn : g.presets.toList[n]? with
  | none => simp [hn] at h
  | some p =>
    rw [hn] at h
    exact h ▸ List.mem_of_getElem? hn

theorem takeRecallPreset_changes (n : Nat) (s : State) : Changes s (takeRecallPreset n s).1 := by
  unfold takeRecallPreset
  split
  · rename_i k hk
    exact makeCurrent_changes fun h => h.2 k (preset_mem hk)
  · exact .refl

theorem takeSetKeystone_changes (k : Keystone) (s : State) : Changes s (takeSetKeystone k s).1 :=
  makeCurrent_changes fun _ => clampPair_ok k

theorem nudgeVertical_changes (d : Int) (s : State) : Changes s (nudgeVertical d s).1 :=
  makeCurrent_changes fun h => clampVertical_ok ((keystone_ok_iff _).1 h.1).2.1

theorem nudgeHorizontal_changes (d : Int) (s : State) : Changes s (nudgeHorizontal d s).1 :=
  makeCurrent_changes fun h => clampHorizontal_ok ((keystone_ok_iff _).1 h.1).1

/-! ## Lockout -/

theorem stackLaw_filter {stack : List LockEntry} (p : LockEntry → Bool) (h : StackLaw stack) :
    StackLaw (stack.filter p) :=
  ⟨(List.length_filter_le _ _).trans h.1, h.2.filter _⟩

theorem minutePassed_level {e e' : LockEntry} (h : minutePassed e = some e') : e'.level = e.level := by
  unfold minutePassed at h
  split at h
  · cases h; rfl
  · split at h
    · cases h
    · cases h; rfl

theorem stackLaw_minutes {stack : List LockEntry} (h : StackLaw stack) : StackLaw (stack.filterMap minutePassed) := by
  refine ⟨(List.length_filterMap_le _ _).trans h.1, List.Pairwise.filterMap _ (fun a b hab a' ha' b' hb' => ?_) h.2⟩
  rw [minutePassed_level ha', minutePassed_level hb']
  exact hab

theorem le_topLevel {stack : List LockEntry} (h : stack.Pairwise fun a b => a.level < b.level) {e : LockEntry}
    (he : e ∈ stack) : e.level ≤ topLevel stack := by
  rcases List.eq_nil_or_concat stack with rfl | ⟨l, a, rfl⟩
  · simp at he
  · simp only [List.concat_eq_append] at *
    rw [topLevel_append_singleton]
    rw [List.pairwise_append] at h
    rcases List.mem_append.1 he with he | he
    · exact Nat.le_of_lt (h.2.2 e he a (by simp))
    · simp only [List.mem_singleton] at he
      exact he ▸ Nat.le_refl _

theorem withStack_changes {stack : List LockEntry} {s : State} (h : StackLaw s.lockout.stack → StackLaw stack) :
    Changes s (withStack stack s) := Change.one (.lockout _ h)

theorem takeLock_changes (v d a o : Nat) (s : State) : Changes s (takeLock v d a o s).1 := by
  unfold takeLock
  split
  · exact .refl
  split
  · exact .refl
  split
  · exact .refl
  rename_i hc hf
  refine withStack_changes fun h => ⟨by simpa [Config.stackSize] using hf, ?_⟩
  rw [List.pairwise_append]
  refine ⟨h.2, List.pairwise_singleton _ _, fun e he x hx => ?_⟩
  simp only [List.mem_singleton] at hx
  subst hx
  have := le_topLevel h.2 he
  have hne : s.lockout.stack ≠ [] := List.ne_nil_of_mem he
  simp only [not_and, Nat.not_le] at hc
  exact Nat.lt_of_le_of_lt this (hc hne)

theorem takeUnlock_changes (v a : Nat) (s : State) : Changes s (takeUnlock v a s).1 := by
  unfold takeUnlock
  split
  · exact .refl
  · split
    · exact .refl
    · exact withStack_changes (stackLaw_filter _)

theorem takeUnlockAll_changes (a : Nat) (s : State) : Changes s (takeUnlockAll a s).1 :=
  withStack_changes (stackLaw_filter _)

theorem takeMinuteTick_changes (s : State) : Changes s (takeMinuteTick s) := by
  unfold takeMinuteTick
  split
  · exact Change.one (.lockout _ stackLaw_minutes)
  · exact .refl

theorem countSecond_changes (s : State) : Changes s (countSecond s) := by
  unfold countSecond
  split <;> exact Change.one (.lockout _ id)

/-! ## The schedule -/

theorem advanceClock_changes (s : State) : Changes s (advanceClock s) := by
  unfold advanceClock
  dsimp only
  split
  · exact Change.one (.schedule _ id)
  · split <;> exact Change.one (.schedule _ id)

theorem setFloor_changes (n : Nat) (s : State) : Changes s (setFloor n s) := Change.one (.lockout _ id)

theorem applyEntry_changes (e : Entry) (s : State) : Changes s (applyEntry e s) := by
  have hs : Changes s (applySource e.source s) := by
    unfold applySource
    split
    · exact .refl
    · exact takeSelect_changes _ _
  have hp (u : State) : Changes u (applyPreset e.preset u) := by
    unfold applyPreset
    split
    · exact .refl
    · exact takeRecallPreset_changes _ _
  have hm (u : State) : Changes u (applyMode e.mode u) := by
    unfold applyMode
    split
    · exact .refl
    · exact lampAside_changes u _ rfl rfl rfl rfl
  exact (((hs.trans (hp _)).trans (hm _)).trans (setFloor_changes _ _)).tail (.dutyEntry _ _)

theorem setGoverning_changes (x : Option (Nat × Nat)) (s : State) : Changes s (setGoverning x s) :=
  Change.one (.schedule _ id)

/-- An evaluation of the schedule is a chain of changes and an evaluation of Shared Duty (R153). -/
theorem evaluateSchedule_does (written : Option Nat) (s : State) :
    ∃ w, Changes s w ∧ Evaluates w (evaluateSchedule written s) := by
  unfold evaluateSchedule
  split
  · split
    · exact ⟨s, .refl, .evaluate⟩
    · exact ⟨_, (setGoverning_changes _ _).trans (applyEntry_changes _ _), .evaluate⟩
  · split
    · exact ⟨s, .refl, .evaluate⟩
    · exact ⟨setFloor 0 (setGoverning none s), (setGoverning_changes _ _).trans (setFloor_changes _ _), .ends⟩

theorem entriesLaw_set {table : Vector (Option Entry) 32} {i : Fin 32} {x : Option Entry}
    (hx : ∀ e, x = some e → e.ok = true) (h : EntriesLaw table) : EntriesLaw (table.set i x) := by
  intro e he
  rcases mem_toList_set he with he | he
  · exact hx e he.symm
  · exact h e he

end Sys2Proof.Machine
end

section
/-! SUPPORT. Every command is a chain of elementary changes and what follows it: `exec_next`. -/

namespace Sys2Proof.Machine

/-! ## Orders and keys -/

theorem offerCues_changes (a n : Nat) (s : State) : Changes s (offerCues a n s) := by
  unfold offerCues
  generalize cueGroups s.store.settings = groups
  induction groups generalizing s with
  | nil => exact .refl
  | cons g groups ih => exact Relation.ReflTransGen.trans (offer_changes _ _ _) (ih _)

theorem takeAcknowledge_changes (n : Nat) (s : State) : Changes s (takeAcknowledge n s).state := by
  simp only [takeAcknowledge]
  generalize allConditions = conditions
  induction conditions generalizing s with
  | nil => exact .refl
  | cons c conditions ih =>
    have hc : Changes s (acknowledgeOne n c s) := by
      unfold acknowledgeOne
      split
      · exact Change.one (.clear c)
      · exact .refl
    exact hc.trans (ih _)

theorem takeWearReset_changes (label : List Byte) (s : State) : Changes s (takeWearReset label s).1 := by
  unfold takeWearReset
  split
  · exact Changes.mark ((Change.one (.account label)).tail (.clear _)) _
  · exact .refl

theorem takeSettingsWrite_changes (x : Settings) (s : State) : Changes s (takeSettingsWrite x s).1 :=
  (Change.one (.storeAside { s.store with toStore := x } rfl rfl rfl rfl rfl)).mark _

theorem takeRestart_changes (s : State) : Changes s (takeRestart s).1 :=
  Change.one (.storeAside _ rfl rfl rfl rfl rfl)

theorem causeOf_ordered (t : Taken) : (causeOf t).ordered := by
  unfold causeOf
  split
  · exact .inl rfl
  · exact .inr rfl

/-- The orders that set the clock or write the schedule table, which evaluate the schedule. -/
def timedOrder : OrderKind → Bool
  | .timeSet => true
  | .entryWrite => true
  | .entryClear => true
  | _ => false

theorem ownerTakes_changes {kind : OrderKind} (h : timedOrder kind = false) (t : Taken) (s : State) :
    Changes s (ownerTakes kind t s).state := by
  unfold ownerTakes
  split
  · exact takeLight_changes (causeOf_ordered t) s
  · exact takeRest_changes s
  · split
    · exact lampAside_changes s _ rfl rfl rfl rfl
    · exact .refl
  · exact Change.one (.route _ rfl)
  · exact Change.one (.route _ rfl)
  · exact takeSelect_changes _ s
  · split
    · exact takeAliasWrite_changes _ s
    · exact .refl
  · exact takeAliasClear_changes _ s
  · exact takeSetKeystone_changes _ s
  · split
    · exact nudgeVertical_changes _ s
    · exact nudgeHorizontal_changes _ s
  · exact takeStorePreset_changes _ s
  · exact takeRecallPreset_changes _ s
  · exact takeLock_changes _ _ _ _ s
  · split
    · exact takeUnlockAll_changes _ s
    · exact takeUnlock_changes _ _ s
  · simp [timedOrder] at h
  · simp [timedOrder] at h
  · simp [timedOrder] at h
  · exact takeAcknowledge_changes _ s
  · exact .refl
  · exact takeWearReset_changes _ s
  · split
    · exact takeSettingsWrite_changes _ s
    · exact .refl
  · exact takeRestart_changes s
  · exact .refl

theorem parseEntry_ok {bytes : List Byte} {e : Entry} (h : parseEntry bytes = some e) : e.ok = true := by
  unfold parseEntry at h
  split at h
  · dsimp only at h
    rw [Option.ite_none_right_eq_some, Bool.and_eq_true] at h
    exact Option.some.inj h.2 ▸ h.1.1
  · cases h

/-- A chain of changes, then nothing or an evaluation of the schedule. -/
def Times (s v : State) : Prop := Changes s v ∨ ∃ w, Changes s w ∧ Evaluates w v

theorem times_evaluate {s w : State} (h : Changes s w) (written : Option Nat) : Times s (evaluateSchedule written w) := by
  obtain ⟨v, hv, hd⟩ := evaluateSchedule_does written w
  exact .inr ⟨v, h.trans hv, hd⟩

theorem setClock_times (d m n : Nat) (s : State) : Times s (setClock d m n s) := by
  have ht : Changes s (s.withSchedule { s.schedule with day := d, minute := m, second := n, valid := true }) :=
    Change.one (.schedule _ id)
  unfold setClock
  dsimp only
  split
  · exact times_evaluate ht none
  · exact .inl ht

theorem writeSlot_times {i : Fin 32} {x : Option Entry} (hx : ∀ e, x = some e → e.ok = true) (s : State) :
    Times s (writeSlot i x s) := by
  have ht : Changes s (mark (.entryAt i) (s.withSchedule { s.schedule with table := s.schedule.table.set i x })) :=
    (Change.one (.schedule _ (entriesLaw_set hx))).mark _
  unfold writeSlot
  dsimp only
  split
  · exact times_evaluate ht _
  · exact .inl ht

theorem ownerTakes_times (kind : OrderKind) (t : Taken) (s : State) : Times s (ownerTakes kind t s).state := by
  by_cases hk : timedOrder kind = false
  · exact .inl (ownerTakes_changes hk t s)
  · have hkinds : kind = .entryWrite ∨ kind = .entryClear ∨ kind = .timeSet := by
      cases kind <;> simp [timedOrder] at hk ⊢
    obtain ⟨args, authority, origin⟩ := t
    rcases hkinds with rfl | rfl | rfl
    · rcases args with _ | ⟨slot, entry⟩
      · exact .inl .refl
      · unfold ownerTakes
        dsimp only
        split
        · rename_i e he
          simp only [plain, takeEntryWrite]
          split
          · exact writeSlot_times (by rintro _ ⟨⟩; exact parseEntry_ok he) s
          · exact .inl .refl
        · exact .inl .refl
    · rcases args with _ | ⟨slot, _ | ⟨_, _⟩⟩
      · exact .inl .refl
      · show Times s (takeEntryClear slot.toNat s).1
        unfold takeEntryClear
        split
        · split
          · exact writeSlot_times (x := none) nofun s
          · exact .inl .refl
        · exact .inl .refl
      · exact .inl .refl
    · rcases args with _ | ⟨_, _ | ⟨_, _ | ⟨_, _ | ⟨_, _ | ⟨_, _⟩⟩⟩⟩⟩
      case cons.cons.cons.cons.nil => exact setClock_times _ _ _ s
      all_goals exact .inl .refl

theorem answer_answered (direct m : Bool) (code : Byte) (o : OrderFrame) (r : Result) (data : List Byte) (s : State) :
    Answered s (answer direct m code o r data s) := by
  unfold answer
  split
  · exact .inr ⟨answerFrame s o.source code o.tag r data, m, nofun, rfl⟩
  · exact .inl rfl

theorem Answered.changes {s u : State} : Answered s u → Changes s u
  | .inl h => h ▸ .refl
  | .inr ⟨f, m, hf, h⟩ => h ▸ Change.one (.offer f m hf)

theorem announce_changes (kind : OrderKind) (t : Taken) (r : Result) (s : State) : Changes s (announce kind t r s) := by
  unfold announce
  split
  · split
    · exact offerCues_changes _ _ s
    · exact .refl
  · exact .refl

theorem judgeOrder_does (kind : OrderKind) (direct : Bool) (o : OrderFrame) (s : State) :
    Does s (judgeOrder kind direct o s) := by
  unfold judgeOrder
  split
  · exact .plain (answer_answered _ _ _ _ _ _ _).changes
  dsimp only
  by_cases hk : kind = .select
  · refine .plain (Relation.ReflTransGen.trans ?_ (announce_changes _ _ _ _))
    exact (ownerTakes_changes (hk ▸ rfl) _ s).trans (answer_answered _ _ _ _ _ _ _).changes
  · rw [announce_of_ne_select hk]
    rcases ownerTakes_times kind { args := o.args, authority := o.authority.toNat, origin := some o.source } s with
      h | ⟨w, hw, hd⟩
    · exact .plain (h.trans (answer_answered _ _ _ _ _ _ _).changes)
    · exact .evaluates hw hd (answer_answered _ _ _ _ _ _ _)

theorem Does.refl (s : State) : Does s s := .plain .refl

theorem decodeAny_does (code : Byte) (o : OrderFrame) (s : State) : Does s (decodeAny code o s) := by
  unfold decodeAny
  split
  · unfold decodeOrder
    split
    · exact .refl s
    · split
      · exact .refl s
      · exact judgeOrder_does _ _ _ s
    · exact judgeOrder_does _ _ _ s
  · unfold decodeUnknown
    split
    · exact .plain (answer_answered _ _ _ _ _ _ _).changes
    · exact .refl s

theorem receiveOrder_does (code : Byte) (o : OrderFrame) (s : State) : Does s (receiveOrder code o s) := by
  unfold receiveOrder
  split
  · exact .refl s
  split
  · exact .refl s
  split
  · exact .plain (Change.one .clash)
  split
  · exact decodeAny_does code o s
  · exact .refl s

theorem keyOrder_changes {kind : OrderKind} (h : timedOrder kind = false) (args : List Byte) (s : State) :
    Changes s (keyOrder kind args s) := by
  have hr (u : State) : Changes u (showRefused u) := Change.one (.refused _)
  unfold keyOrder
  split
  · exact hr s
  · refine Relation.ReflTransGen.trans ?_ (announce_changes _ _ _ _)
    have ho := ownerTakes_changes h { args := args, authority := s.store.settings.keypadAuthority, origin := none } s
    split
    · exact ho
    · exact ho.trans (hr _)

theorem pressPower_changes (s : State) : Changes s (pressPower s) := by
  unfold pressPower
  split <;> exact keyOrder_changes rfl _ s

theorem pressSource_changes (s : State) : Changes s (pressSource s) := by
  unfold pressSource
  split
  · exact keyOrder_changes rfl _ s
  · exact .refl

theorem pressBlank_changes (s : State) : Changes s (pressBlank s) := by
  unfold pressBlank
  split <;> exact keyOrder_changes rfl _ s

theorem refusedEnds_changes (s : State) : Changes s (refusedEnds s) := by
  unfold refusedEnds
  split
  · exact Change.one (.refused _)
  · exact .refl

/-! ## The hall line and the peer table -/

theorem peerPosition_some {p : Peers} {a : BitVec 5} {i : Fin 15} (h : p.positionOf a = some i) :
    ∃ r, p.table[i] = some r ∧ r.address = a := by
  have := List.find?_some h
  split at this
  · exact ⟨_, ‹_›, by simpa using this⟩
  · simp at this

theorem peerPosition_none {p : Peers} {a : BitVec 5} (h : p.positionOf a = none) (i : Fin 15) (r : PeerRecord)
    (hr : p.table[i] = some r) : r.address ≠ a := by
  have := List.find?_eq_none.1 h i (List.mem_finRange i)
  simpa [hr] using this

theorem putPeer_changes {i : Fin 15} {x : Option PeerRecord} {s : State}
    (h : PeersLaw s.line.address s.peers.table → PeersLaw s.line.address (s.peers.table.set i x)) :
    Changes s (putPeer i x s) := Change.one (.peers _ h)

/-- A record put where its address stands, or anywhere when it stands nowhere, keeps the peers' law. -/
theorem peersLaw_put {p : Peers} {own : BitVec 5} {i : Fin 15} {r : PeerRecord} (ho : r.address ≠ own)
    (hi : p.positionOf r.address = some i ∨ p.positionOf r.address = none) (h : PeersLaw own p.table) :
    PeersLaw own (p.table.set i (some r)) := by
  refine ⟨distinctKeys_set_some (fun j x hj hx he => ?_) h.1, fun x hx => ?_⟩
  · rcases hi with hi | hi
    · obtain ⟨old, hold, ha⟩ := peerPosition_some hi
      exact (distinctKeys_iff _ _).1 h.1 j i x old hj hx hold (he.trans ha.symm)
    · exact peerPosition_none hi j x hx he
  · rcases mem_toList_set hx with hx | hx
    · exact Option.some.inj hx ▸ ho
    · exact h.2 x hx

theorem peersLaw_remove {own : BitVec 5} {table : Vector (Option PeerRecord) 15} (i : Fin 15)
    (h : PeersLaw own table) : PeersLaw own (table.set i none) := by
  refine ⟨distinctKeys_set_none i h.1, fun x hx => ?_⟩
  rcases mem_toList_set hx with hx | hx
  · cases hx
  · exact h.2 x hx

theorem takeBeacon_changes {a : BitVec 5} {s : State} (ha : a ≠ s.line.address) (b : Beacon) :
    Changes s (takeBeacon a b s) := by
  unfold takeBeacon
  dsimp only
  split
  · rename_i i hi
    exact putPeer_changes (peersLaw_put ha (.inl hi))
  · rename_i hn
    split
    · exact putPeer_changes (peersLaw_put ha (.inr hn))
    · exact latch_changes _ _ _

theorem agePeer_changes (a : BitVec 5) (s : State) : Changes s (agePeer a s) := by
  unfold agePeer
  split
  · split
    · exact putPeer_changes (peersLaw_remove _)
    · exact .refl
  · exact .refl

theorem Times.does {s v : State} : Times s v → Does s v
  | .inl h => .plain h
  | .inr ⟨_, h, hd⟩ => .evaluates h hd (.inl rfl)

theorem takeCue_changes (a g n : Nat) (s : State) : Changes s (takeCue a g n s) := by
  unfold takeCue
  split
  · split
    · exact .refl
    · exact takeSelect_changes _ s
  · exact .refl

theorem deliver_does {f : Frame} {s : State} (h : f.source ≠ s.line.address) : Does s (deliver f s) := by
  unfold deliver
  split
  · split
    · exact .plain (takeBeacon_changes h _)
    · exact .refl s
  · unfold takeClock
    split
    · split
      · exact (setClock_times _ _ _ s).does
      · exact .refl s
    · exact .refl s
  · split
    · exact decodeAny_does _ _ s
    · exact .refl s
  · split
    · exact .refl s
    · exact .plain (takeCue_changes _ _ _ s)
    · exact .refl s
  · exact .refl s
  · exact .refl s

theorem receive_does (bytes : List Byte) (s : State) : Does s (receive bytes s) := by
  unfold receive
  split
  · exact .refl s
  split
  · exact .plain (Change.one (.skip true))
  · exact .refl s
  · unfold takeFrame
    split
    · exact .plain (Change.one .clash)
    · split
      · exact deliver_does ‹_›
      · exact .refl s

theorem contend_does (rival : List Byte) (s : State) : Does s (contend rival s) := by
  unfold contend
  split
  case isFalse => exact .refl s
  case isTrue hs =>
    split
    · exact .refl s
    split
    · exact .refl s
    · rename_i hi
      split
      · exact receive_does rival s
      · exact .plain (Change.one (.attempt _ (List.getElem?_eq_some_iff.1 hi).1 hs.1 hs.2.1))

/-! ## The Store -/

theorem loaded_iff (s : State) : s.loaded = true ↔ Config.recordCount ≤ s.store.loadIndex := by simp [State.loaded]

theorem recordFails_changes (r : RecordId) (s : State) : Changes s (recordFails r s) :=
  Changes.mark (latch_changes _ _ s) r

theorem withStaged_self (s : State) : withStaged s.store.staged s = s := rfl

theorem mark_withStaged (r : RecordId) (x : Staged) (s : State) : mark r (withStaged x s) = withStaged x (mark r s) := by
  unfold mark withStaged
  by_cases h : r ∈ s.store.list
  · simp [h]
  · simp only [h, State.withStore_store, if_false]
    rfl

/-- The load goes on with staged records `x` that keep their laws. -/
theorem nextRead_does {x : Staged} {s : State} (hi : s.store.loadIndex < Config.recordCount)
    (ht : StagedTables s.store.staged → StagedTables x)
    (hw : StagedWear s.store.loadIndex s.store.staged → StagedWear (s.store.loadIndex + 1) x) :
    Does s (nextRead (withStaged x s)) := by
  unfold nextRead
  dsimp only
  by_cases hl : s.store.loadIndex + 1 < Config.recordCount
  · rw [if_neg (fun h => Nat.not_le.2 hl ((loaded_iff _).1 h))]
    exact .plain (Change.one (.advance x _ hl ht hw))
  · rw [if_pos ((loaded_iff _).2 (Nat.not_lt.1 hl))]
    have hc : MemoryChanges s _ := .single (.inr (.commit x (by omega) ht hw))
    exact .memory (hc.trans (Changes.memory ((judgeLifeLow_changes _).trans (produceCorners_changes _))))

theorem stagedWear_succ {n : Nat} {x : Staged} (h : StagedWear n x) : StagedWear (n + 1) x :=
  ⟨h.1, h.2.1, fun hn => h.2.2 (by omega)⟩

theorem reading_lt {s : State} {r : RecordId} (h : s.reading = some r) : s.store.loadIndex < Config.recordCount :=
  (List.getElem?_eq_some_iff.1 h).1

/-- The settings record is read first. -/
theorem reading_settings {s : State} (h : s.reading = some .settings) : s.store.loadIndex = 0 := by
  unfold State.reading at h
  cases hn : s.store.loadIndex with
  | zero => rfl
  | succ n =>
    rw [hn] at h
    have hm : RecordId.settings ∈ loadSequence.tail :=
      List.mem_of_getElem? (i := n) (by rw [List.getElem?_tail]; exact h)
    exact absurd hm (by decide)

theorem reading_wear {s : State} (h : s.reading = some .wear) : s.store.loadIndex ≠ 0 := by
  intro hn
  rw [State.reading, hn] at h
  exact absurd h (by decide)

theorem limitedWear_bound (x : Settings) (w : WearRecord) : (limitedWear x w).equivalent < x.expiryLimit + 900 := by
  unfold limitedWear
  split
  · simp
  · omega

theorem parseWear_residue {bytes : List Byte} {w : WearRecord} (h : parseWear bytes = some w) : w.residue ≤ 15 := by
  unfold parseWear at h
  split at h
  · split at h
    · rename_i hok
      simp only [Bool.and_eq_true, decide_eq_true_eq] at hok
      exact Option.some.inj h ▸ hok.2
    · cases h
  · cases h

theorem repeatsSource_false {table : Vector (Option AliasEntry) 16} {n : Nat} (h : ¬ repeatsSource table n = true)
    (i : Fin 16) (e : AliasEntry) (he : table[i] = some e) : e.source ≠ n := by
  intro hn
  refine h (List.any_eq_true.2 ⟨e, List.mem_filterMap.2 ⟨some e, ?_, rfl⟩, by simpa using hn⟩)
  exact (mem_toList_iff_fin _ _).2 ⟨i, he⟩

theorem parseSlot_ok {bytes : List Byte} {x : Option Entry} (h : parseSlot bytes = some x) (e : Entry)
    (he : x = some e) : e.ok = true := by
  subst he
  unfold parseSlot at h
  split at h
  · split at h
    · split at h <;> cases h
    split at h
    · obtain ⟨e', he', rfl⟩ : ∃ e', parseEntry _ = some e' ∧ e' = e := by simpa using h
      exact parseEntry_ok he'
    · cases h
  · cases h

theorem parsePreset_ok {bytes rest : List Byte} {k : Keystone} (h : parsePreset bytes = some (some k, rest)) :
    k.ok = true := by
  unfold parsePreset at h
  split at h
  · split at h
    · cases h
    split at h
    · split at h
      · split at h
        · cases h; assumption
        · cases h
      · cases h
    · cases h
  · cases h

theorem parsePresets_ok {n : Nat} {bytes rest : List Byte} {slots : List (Option Keystone)}
    (h : parsePresets n bytes = some (slots, rest)) (k : Keystone) (hk : some k ∈ slots) : k.ok = true := by
  induction n generalizing bytes slots with
  | zero =>
    cases h
    cases hk
  | succ n ih =>
    unfold parsePresets at h
    split at h
    · cases h
    rename_i slot rest' hp
    split at h
    · cases h
    rename_i hrest
    cases h
    rcases List.mem_cons.1 hk with rfl | hk
    · exact parsePreset_ok hp
    · exact ih hrest hk

theorem parseGeometry_law {bytes : List Byte} {k : Keystone} {presets : Vector (Option Keystone) 4}
    (h : parseGeometry bytes = some (k, presets)) : KeystoneLaw k presets := by
  unfold parseGeometry at h
  split at h
  · split at h
    · rename_i hok
      split at h
      · rename_i hp
        cases h
        exact ⟨hok, fun k hk => parsePresets_ok hp k hk⟩
      · cases h
    · cases h
  · cases h

/-- A record whose content passed its check: a chain of changes, and staged records that keep their laws. -/
theorem takeRecord_staged {r : RecordId} {s : State} (hr : s.reading = some r) (content : List Byte) :
    ∃ x w, Changes s w ∧ w.store.loadIndex = s.store.loadIndex ∧ w.store.staged = s.store.staged ∧
      takeRecord r content s = withStaged x w ∧ (StagedTables s.store.staged → StagedTables x) ∧
      (StagedWear s.store.loadIndex s.store.staged → StagedWear (s.store.loadIndex + 1) x) := by
  have hfail : ∃ x w, Changes s w ∧ w.store.loadIndex = s.store.loadIndex ∧ w.store.staged = s.store.staged ∧
      recordFails r s = withStaged x w ∧ (StagedTables s.store.staged → StagedTables x) ∧
      (StagedWear s.store.loadIndex s.store.staged → StagedWear (s.store.loadIndex + 1) x) := by
    have hst : (recordFails r s).store.staged = s.store.staged ∧
        (recordFails r s).store.loadIndex = s.store.loadIndex := by
      unfold recordFails; rw [mark_store]; simp
    exact ⟨s.store.staged, recordFails r s, recordFails_changes r s, hst.2, hst.1, by rw [← hst.1, withStaged_self], id,
      stagedWear_succ⟩
  unfold takeRecord
  split
  · split
    · rename_i x hx
      refine ⟨_, s, .refl, rfl, rfl, rfl, id, fun h => ?_⟩
      have hz := h.2.2 (by rw [reading_settings hr]; decide)
      simp only [StagedWear, hz]
      refine ⟨by decide, ?_, fun _ => trivial⟩
      simp [WearRecord.zero]
    · exact hfail
  · split
    · rename_i w hw
      have hlaw : StagedWear (s.store.loadIndex + 1)
          { s.store.staged with wear := limitedWear s.store.staged.settings w } := by
        refine ⟨?_, limitedWear_bound _ _, fun h => absurd h (by have := reading_wear hr; omega)⟩
        have := parseWear_residue hw
        unfold limitedWear
        split <;> exact this
      unfold stageWear
      dsimp only
      split
      · exact ⟨_, s, .refl, rfl, rfl, rfl, id, fun _ => hlaw⟩
      · have hm := mark_store .wear s
        exact ⟨_, mark .wear s, Change.one (.mark _), by rw [hm], by rw [hm], mark_withStaged _ _ _, id, fun _ => hlaw⟩
    · exact hfail
  · rename_i i
    split
    · rename_i e he
      unfold stageAlias
      split
      · exact ⟨s.store.staged, s, .refl, rfl, rfl, rfl, id, stagedWear_succ⟩
      · split
        · exact hfail
        · rename_i a hrep
          refine ⟨_, s, .refl, rfl, rfl, rfl, fun h => ⟨?_, h.2⟩, stagedWear_succ⟩
          exact distinctKeys_set_some (fun j x _ hx => repeatsSource_false hrep j x hx) h.1
    · exact hfail
  · split
    · rename_i e he
      exact ⟨_, s, .refl, rfl, rfl, rfl, fun h => ⟨h.1, entriesLaw_set (parseSlot_ok he) h.2.1, h.2.2⟩, stagedWear_succ⟩
    · exact hfail
  · split
    · rename_i k presets hk
      exact ⟨_, s, .refl, rfl, rfl, rfl, fun h => ⟨h.1, h.2.1, parseGeometry_law hk⟩, stagedWear_succ⟩
    · exact hfail

/-- A record that fails at load. -/
theorem nextRead_failed_does {r : RecordId} {s : State} (hr : s.reading = some r) :
    Does s (nextRead (recordFails r s)) := by
  have hst : (recordFails r s).store.loadIndex = s.store.loadIndex := by
    unfold recordFails; rw [mark_store]; simp
  refine Does.after (recordFails_changes r s) ?_
  exact nextRead_does (x := (recordFails r s).store.staged) (by rw [hst]; exact reading_lt hr) id stagedWear_succ

theorem readEnds_does (bytes : List Byte) (s : State) : Does s (readEnds bytes s) := by
  unfold readEnds
  split
  · exact .refl s
  · rename_i r hr
    split
    · rename_i content _
      obtain ⟨x, w, hc, hi, hs, he, ht, hw⟩ := takeRecord_staged hr content
      rw [he]
      refine Does.after hc (nextRead_does (by rw [hi]; exact reading_lt hr) ?_ ?_)
      · rw [hs]; exact ht
      · rw [hs, hi]; exact hw
    · exact nextRead_failed_does hr

theorem readFails_does (s : State) : Does s (readFails s) := by
  unfold readFails
  split
  · exact .refl s
  · split
    · exact nextRead_failed_does ‹_›
    · exact .refl s

theorem writeEnds_changes (retry : List RecordId) (s : State) :
    MemoryChanges s (s.withStore { s.store with inFlight := none, retry := retry }) := .single (.inr (.writeEnds retry))

theorem writeConfirms_does (late : Bool) (s : State) : Does s (writeConfirms late s) := by
  unfold writeConfirms
  split
  · exact .refl s
  · split
    · exact .memory (writeEnds_changes _ s)
    · exact .refl s

theorem writeFails_does (s : State) : Does s (writeFails s) := by
  unfold writeFails
  split
  · exact .refl s
  split
  case isFalse => exact .refl s
  case isTrue =>
    rename_i w _ _
    have hl : MemoryChanges s
        (latch .storeFault (storeDetail w.record true) (s.withStore { s.store with inFlight := none })) :=
      (writeEnds_changes s.store.retry s).trans (Changes.memory (latch_changes _ _ _))
    have hr (u : State) (retry : List RecordId) : Changes u (u.withStore { u.store with retry := retry }) :=
      Change.one (.storeAside _ rfl rfl rfl rfl rfl)
    unfold takeFailure
    dsimp only
    split
    · exact .memory (hl.trans (Changes.memory (hr _ _)))
    · exact .memory (hl.trans (Changes.memory (Changes.mark (hr _ _) _)))

/-! ## The minute boundary, the holdoff and the tick -/

theorem takeBoundary_does (s : State) : Does s (takeBoundary s) := by
  unfold takeBoundary
  split
  · split
    · have ht : Changes s (s.withSchedule { s.schedule with boundaryDue := none }) := Change.one (.schedule _ id)
      refine (times_evaluate ?_ none).does
      unfold broadcastClock
      split
      · exact ht.trans (offer_changes _ _ _)
      · exact ht
    · exact .refl s
  · exact .refl s

theorem holdoffEnds_cases (s : State) :
    holdoffEnds s = s ∨ (runsOut s (s.duty.holdoff.map Holdoff.due) = true ∧
      holdoffEnds s = evaluateOnce true (stopHoldoff s)) := by
  unfold holdoffEnds
  split
  · exact .inr ⟨‹_›, rfl⟩
  · exact .inl rfl

theorem tick_changes (d : Int) (s : State) : Changes s (tick d s) := by
  have hs : Changes s (advanceExtinction s) := Change.one (.since _)
  have hr (u : State) : Changes u (reportSecond u) := by
    unfold reportSecond
    split
    · exact lampSecond_changes ‹_›
    · exact .refl
  exact ((((hs.trans (hr _)).trans (takeSample_changes d _)).trans (advanceClock_changes _))).trans
    (countSecond_changes _)

/-! ## Every command -/

/-- What a command that is no reset can do: nothing, or an operation and what follows it. -/
inductive Runs (s : State) : State → Prop
  | same : Runs s s
  | does {u : State} (hr : s.released = true) (h : Does s u) : Runs s (settle s u)
  | ticks {u : State} (hr : s.released = true) (h : Changes s u) : Runs s (keepTick (settle s u))
  | holdoff (hr : s.released = true) : Runs s (settle s (evaluateOnce true (stopHoldoff s)))
  | listen (hr : s.released = true) : Runs s (settle s (listenEnds s))
  | period (hr : s.released = true) : Runs s (settle s (periodEnds s))

/-- What one command can do: a reset, its release, or what any other command can do. -/
inductive Next (s : State) : State → Prop
  | reset : Next s (enterReset s)
  | release (a : BitVec 5) (r : Bool) : Next s (releaseReset a r s)
  | runs {t : State} (h : Runs s t) : Next s t

/-- The commands that may reset the part: POWER_ON, RESET_PIN, RESTART_RESET, and the release of one held in reset. -/
def resets (c : Instr) (s : State) : Prop :=
  c = .powerOn ∨ c = .resetPin ∨ c = .restartReset ∨ (s.released = false ∧ ∃ a r, c = .resetRelease a r)

theorem runs_of_command {f : State → State} {s t : State} (hf : s.released = true → Runs s (settle s (f s)))
    (h : command f s = .next t) : Runs s t := by
  unfold command at h
  split at h
  · exact Host.Outcome.next.inj h ▸ hf ‹_›
  · exact Host.Outcome.next.inj h ▸ .same

theorem exec_runs {c : Instr} {s t : State} (h : exec c s = .next t) (hc : ¬ resets c s) : Runs s t := by
  have hdoes {f : State → State} (hf : Does s (f s)) (hc : command f s = .next t) : Runs s t :=
    runs_of_command (fun hr => .does hr hf) hc
  have hplain {f : State → State} (hf : Changes s (f s)) (hc : command f s = .next t) : Runs s t := hdoes (.plain hf) hc
  cases ho : orderCarried c with
  | some x =>
    rw [exec_order (kind := x.1) (o := x.2) ho] at h
    exact hdoes (receiveOrder_does _ _ s) h
  | none =>
    cases c <;> try (simp [orderCarried] at ho; done)
    case powerOn => exact absurd (.inl rfl) hc
    case resetPin => exact absurd (.inr (.inl rfl)) hc
    case restartReset => exact absurd (.inr (.inr (.inl rfl))) hc
    case resetRelease a r =>
      have hr : s.released = true := by
        by_contra hn
        exact hc (.inr (.inr (.inr ⟨by simpa using hn, a, r, rfl⟩)))
      have hsame : exec (.resetRelease a r) s = .next s := by
        show Host.Outcome.next (if s.released then s else releaseReset a r s) = _
        rw [if_pos hr]
      exact Host.Outcome.next.inj (hsame.symm.trans h) ▸ .same
    case oneSecondTick d =>
      refine Host.Outcome.next.inj h ▸ ?_
      split
      · exact .ticks ‹_› (tick_changes d s)
      · exact .same
    case listenEnd => exact runs_of_command .listen h
    case beaconPeriod => exact runs_of_command .period h
    case contendForLine => exact hdoes (contend_does _ s) h
    case frameSent => exact hplain (Change.one .sends) h
    case lineFault => exact hplain (Change.one .fails) h
    case beaconReceived => exact hdoes (receive_does _ s) h
    case clockReceived => exact hdoes (receive_does _ s) h
    case cueReceived => exact hdoes (receive_does _ s) h
    case frameDiscarded => exact hdoes (receive_does _ s) h
    case unknownOrder => exact hdoes (receiveOrder_does _ _ s) h
    case powerKey => exact hplain (pressPower_changes s) h
    case sourceKey => exact hplain (pressSource_changes s) h
    case blankKey => exact hplain (pressBlank_changes s) h
    case vKey => exact hplain (keyOrder_changes rfl _ s) h
    case hKey => exact hplain (keyOrder_changes rfl _ s) h
    case refusedTimeout => exact hplain (refusedEnds_changes s) h
    case peerAgeOut => exact hplain (agePeer_changes _ s) h
    case preheatTimer => exact hplain (preheatEnds_changes s) h
    case attemptRunsOut => exact hplain (attemptEnds_changes s) h
    case gapRunsOut => exact hplain (gapEnds_changes s) h
    case ignition => exact hplain (senseAppears_changes s) h
    case dropout => exact hplain (senseLost_changes s) h
    case warmupTimer => exact hplain (warmupEnds_changes s) h
    case cooldownTimer => exact hplain (cooldownEnds_changes s) h
    case lockReport => exact hplain (switcherLocks_changes _ s) h
    case switchTimer => exact hplain (switchEnds_changes s) h
    case signalPresenceReport => exact hplain (takeSignal_changes _ _ s) h
    case searchTimer => exact hplain (searchEnds_changes s) h
    case applied => exact hplain (takeApplied_changes _ s) h
    case handoffTimer => exact hplain (handoffEnds_changes s) h
    case minuteTick => exact hplain (takeMinuteTick_changes s) h
    case minuteBoundary => exact hdoes (takeBoundary_does s) h
    case strikeHoldoff =>
      refine runs_of_command (fun hr => ?_) h
      rcases holdoffEnds_cases s with e | ⟨-, e⟩ <;> rw [e]
      · exact .does hr (.refl s)
      · exact .holdoff hr
    case readAnswered => exact hdoes (readEnds_does _ s) h
    case readTimeout => exact hdoes (readFails_does s) h
    case writeConfirmed => exact hdoes (writeConfirms_does _ s) h
    case writeTimeout => exact hdoes (writeFails_does s) h
    case lineFallsIdle => exact hplain (Change.one (.skip false)) h

theorem exec_next {c : Instr} {s t : State} (h : exec c s = .next t) : Next s t := by
  by_cases hc : resets c s
  · rcases hc with rfl | rfl | rfl | ⟨hr, a, r, rfl⟩
    · exact Host.Outcome.next.inj h ▸ .reset
    · exact Host.Outcome.next.inj h ▸ .reset
    · refine Host.Outcome.next.inj h ▸ ?_
      split
      · exact .reset
      · exact .runs .same
    · refine Host.Outcome.next.inj h ▸ ?_
      rw [hr]
      exact .release a r
  · exact .runs (exec_runs h hc)

end Sys2Proof.Machine
end

section
/-! SUPPORT. A law that every elementary change keeps is a law that every step keeps (`Kept.step`); the laws of the lock
stack, of the tables and of the line are such laws. -/

namespace Sys2Proof.Machine

/-! ## The induction, once -/

theorem changes_keep {P : State → Prop} (h : ∀ {u v}, Change u v → P u → P v) {s u : State} (hs : Changes s u)
    (hp : P s) : P u := by
  induction hs with
  | refl => exact hp
  | tail _ hc ih => exact h hc ih

theorem memoryChanges_keep {P : State → Prop} (h : ∀ {u v}, Change u v → P u → P v)
    (hm : ∀ {u v}, MemoryChange u v → P u → P v) {s u : State} (hs : MemoryChanges s u) (hp : P s) : P u := by
  induction hs with
  | refl => exact hp
  | tail _ hc ih => exact hc.elim (fun hc => h hc ih) fun hc => hm hc ih

/-- The law is kept by every command but a reset. -/
structure RunKept (P : State → Prop) : Prop where
  change : ∀ {u v : State}, Change u v → P u → P v
  memory : ∀ {u v : State}, MemoryChange u v → P u → P v
  duty : ∀ {u v : State}, DutyChange u v → P u → P v
  write : ∀ {u : State}, P u → P (beginWrite u)
  beacon : ∀ {u : State}, P u → P (offerOwnBeacon u)
  listen : ∀ {u : State}, P u → P (listenEnds u)
  period : ∀ {u : State}, P u → P (periodEnds u)

/-- The law is kept by everything a step can do. -/
structure Kept (P : State → Prop) : Prop extends RunKept P where
  reset : ∀ {u : State}, P u → P (enterReset u)
  release : ∀ (a : BitVec 5) (r : Bool) {u : State}, P u → P (releaseReset a r u)
  waiting : ∀ (x : List Instr) (n : Nat) {u : State}, P u → P { u with pending := x, now := n }

namespace RunKept

variable {P : State → Prop} (hk : RunKept P)
include hk

theorem does {s u : State} (h : Does s u) (hp : P s) : P u := by
  cases h with
  | plain h => exact changes_keep hk.change h hp
  | memory h => exact hk.write (memoryChanges_keep hk.change hk.memory h hp)
  | evaluates h hd ha => exact changes_keep hk.change ha.changes (hk.duty (.evaluates hd) (changes_keep hk.change h hp))

theorem settle {before u : State} (hp : P u) : P (settle before u) := by
  have hd : P (dutyWatch before u) := by
    unfold dutyWatch
    split
    · exact hp
    · exact hk.duty (.evaluates .evaluate) hp
  have hc : P (changeWatch before (dutyWatch before u)) := by
    unfold changeWatch
    split
    · exact hk.beacon hd
    · exact hd
  unfold Machine.settle writeWatch
  dsimp only
  split
  · exact hc
  · exact hk.write hc

theorem runs {s t : State} (h : Runs s t) (hp : P s) : P t := by
  cases h with
  | same => exact hp
  | does _ h => exact hk.settle (hk.does h hp)
  | ticks _ h =>
    exact changes_keep hk.change (lampAside_changes _ _ rfl rfl rfl rfl) (hk.settle (changes_keep hk.change h hp))
  | holdoff => exact hk.settle (hk.duty .holdoff hp)
  | listen => exact hk.settle (hk.listen hp)
  | period => exact hk.settle (hk.period hp)

end RunKept

namespace Kept

variable {P : State → Prop} (hk : Kept P)
include hk

theorem next {s t : State} (h : Next s t) (hp : P s) : P t := by
  cases h with
  | reset => exact hk.reset hp
  | release a r => exact hk.release a r hp
  | runs h => exact hk.runs h hp

theorem step {s t : State} (h : step s = .next t) (hp : P s) : P t := by
  unfold Machine.step at h
  split at h
  · exact hk.next (exec_next h) (hk.waiting _ s.now hp)
  · unfold idle at h
    cases h
    split
    · exact hk.waiting s.pending _ hp
    · exact hp

end Kept

/-! ## What the Line Interface's operations leave -/

theorem conditions_or (x : BitVec 9) (c d : Condition) :
    (x ||| conditionBit d).getLsbD (conditionCode c) = (x.getLsbD (conditionCode c) || decide (c = d)) := by
  rw [BitVec.getLsbD_or]
  cases c <;> cases d <;> rfl

theorem conditions_clear (x : BitVec 9) (c d : Condition) :
    (x &&& ~~~ conditionBit d).getLsbD (conditionCode c) = (x.getLsbD (conditionCode c) && decide (c ≠ d)) := by
  rw [BitVec.getLsbD_and]
  cases c <;> cases d <;> rfl

@[simp] theorem withConditions_latched (s : State) (x : BitVec 9) (c : Condition) :
    (s.withConditions x).latched c = x.getLsbD (conditionCode c) := rfl

/-- The state differs from `s` in the line and the conditions alone, and in these neither in line state and address nor
in any condition but TRANSMIT FAILED. -/
structure Signals (s u : State) : Prop where
  rest : u = (s.withLine u.line).withConditions u.conditions
  state : u.line.state = s.line.state
  address : u.line.address = s.line.address
  latched : ∀ c, c ≠ .transmitFailed → u.latched c = s.latched c

namespace Signals

theorem refl (s : State) : Signals s s := ⟨rfl, rfl, rfl, fun _ _ => rfl⟩

theorem trans {s u v : State} (h : Signals s u) (h' : Signals u v) : Signals s v where
  rest := by rw [h'.rest, h.rest]; rfl
  state := h'.state.trans h.state
  address := h'.address.trans h.address
  latched c hc := (h'.latched c hc).trans (h.latched c hc)

theorem withLine {s : State} {x : Line} (hs : x.state = s.line.state) (ha : x.address = s.line.address) :
    Signals s (s.withLine x) := ⟨rfl, hs, ha, fun _ _ => rfl⟩

end Signals

theorem offerFailureNotice_signals (r : FailureRecord) (s : State) : Signals s (offerFailureNotice r s) := by
  unfold offerFailureNotice
  split
  · split
    · exact .withLine rfl rfl
    · exact .withLine rfl rfl
  · exact .refl s

theorem recordFailure_signals (r : FailureRecord) (s : State) : Signals s (recordFailure r s) := by
  unfold recordFailure
  split
  · exact .withLine rfl rfl
  dsimp only
  split
  · exact .withLine rfl rfl
  have hl : Signals s ((s.withLine { s.line with failure := some r, overflow := false }).withConditions
      (s.conditions ||| conditionBit .transmitFailed)) :=
    ⟨rfl, rfl, rfl, fun c hc => by rw [withConditions_latched, conditions_or]; simp [hc, State.latched]⟩
  split
  · exact hl.trans (offerFailureNotice_signals r _)
  · exact hl

theorem offerMarked_signals (f : Frame) (m : Bool) (s : State) : Signals s (offerMarked f m s) := by
  unfold offerMarked
  split
  · split
    · exact .withLine rfl rfl
    · exact recordFailure_signals _ s
  · exact .refl s

theorem offerBeacon_signals (p : List Byte) (s : State) : Signals s (offerBeacon p s) := by
  unfold offerBeacon
  split
  · split
    · split
      · exact .withLine rfl rfl
      · exact .withLine rfl rfl
    · split
      · exact .withLine rfl rfl
      · exact .refl s
  · exact .refl s

theorem offerHeld_signals (x : Option (List Byte)) (s : State) : Signals s (offerHeld x s) := by
  unfold offerHeld
  split
  · exact offerBeacon_signals _ s
  · exact .refl s

theorem attemptSends_signals (s : State) : Signals s (attemptSends s) := by
  unfold attemptSends
  split
  · exact .refl s
  · refine Signals.trans ?_ (offerHeld_signals _ _)
    exact .withLine rfl rfl

theorem attemptFails_signals (s : State) : Signals s (attemptFails s) := by
  unfold attemptFails
  split
  · exact .refl s
  split
  · exact .withLine rfl rfl
  split
  · refine Signals.trans (Signals.trans ?_ (recordFailure_signals _ _)) (offerHeld_signals _ _)
    exact .withLine rfl rfl
  · exact .withLine rfl rfl

/-- A latched condition: its bit, then its NOTICE. -/
theorem latch_cases (c : Condition) (d : Nat) (s : State) :
    latch c d s = s ∨ (s.latched c = false ∧ Signals (s.withConditions (s.conditions ||| conditionBit c)) (latch c d s)) := by
  unfold latch
  split
  · exact .inl rfl
  · refine .inr ⟨by simpa using ‹¬ s.latched c = true›, ?_⟩
    dsimp only
    split
    · exact offerMarked_signals _ _ _
    · exact .refl _

theorem latch_line_kept (c : Condition) (d : Nat) (s : State) :
    (latch c d s).line.state = s.line.state ∧ (latch c d s).line.address = s.line.address := by
  rcases latch_cases c d s with h | ⟨-, h⟩
  · rw [h]; exact ⟨rfl, rfl⟩
  · exact ⟨h.state, h.address⟩

theorem clearCondition_line_kept (c : Condition) (s : State) :
    (clearCondition c s).line.state = s.line.state ∧ (clearCondition c s).line.address = s.line.address := by
  unfold clearCondition
  dsimp only
  split <;> exact ⟨rfl, rfl⟩

theorem clearCondition_latched (c d : Condition) (s : State) :
    (clearCondition d s).latched c = (s.latched c && decide (c ≠ d)) := by
  rw [State.latched, State.latched, ← conditions_clear]
  unfold clearCondition
  dsimp only
  split <;> rfl

/-! ## What a chain of evaluations can do -/

/-- A change that Shared Duty makes: its own record is replaced, and a dark lamp struck or one lit by the schedule
released (R166, R167). -/
theorem dutyChange_cases {s v : State} (h : DutyChange s v) :
    ∃ x : Duty, v = s.withDuty x ∨ (s.lamp.state = .dark ∧ s.barred = false ∧ v = (enterPreheat .schedule s).withDuty x) ∨
      (lampOn s.lamp.state = true ∧ s.lamp.cause = .schedule ∧ v = (enterCooldown s).withDuty x) := by
  cases h with
  | evaluates h =>
    cases h with
    | evaluate =>
      obtain ⟨o, d, h | h | h⟩ := evaluate_cases s
      · exact ⟨_, .inl h⟩
      · exact ⟨_, .inr (.inl h)⟩
      · exact ⟨_, .inr (.inr h)⟩
    | ends =>
      obtain ⟨o, d, h | ⟨hs, hb, h⟩ | ⟨hs, hb, h⟩⟩ := evaluate_cases (takeDutyEntry none none s)
      · exact ⟨_, .inl h⟩
      · exact ⟨_, .inr (.inl ⟨hs, hb, h⟩)⟩
      · refine ⟨dutyWith (takeDutyEntry none none s) o d, .inr (.inr ⟨hs, hb, ?_⟩)⟩
        rw [h, takeDutyEntry, enterCooldown_withDuty]
        rfl
  | holdoff =>
    obtain ⟨d, h | ⟨-, hs, hb, h⟩ | ⟨hs, hb, h⟩⟩ := evaluateOnce_cases true (stopHoldoff s)
    · exact ⟨_, .inl h⟩
    · exact ⟨_, .inr (.inl ⟨hs, hb, h⟩)⟩
    · refine ⟨dutyWith (stopHoldoff s) (stopHoldoff s).offerNow d, .inr (.inr ⟨hs, hb, ?_⟩)⟩
      rw [h, stopHoldoff, State.withDuty_twice, enterCooldown_withDuty]

theorem restExpired_cases (s : State) :
    restExpired s = s ∧ ¬ (s.life = .expired ∧ lampOn s.lamp.state = true) ∨
      (s.life = .expired ∧ lampOn s.lamp.state = true ∧ restExpired s = enterCooldown s) := by
  unfold restExpired
  split
  · exact .inr ⟨‹_ ∧ _›.1, ‹_ ∧ _›.2, rfl⟩
  · exact .inl ⟨rfl, ‹_›⟩

/-- The Store but for its list. -/
theorem restExpired_store (s : State) : (restExpired s).store = { s.store with list := (restExpired s).store.list } := by
  rcases restExpired_cases s with ⟨h, -⟩ | ⟨-, -, h⟩
  · rw [h]
  · rw [h]; exact enterCooldown_store s

/-- The end of LISTEN gives a beacon of the station become ACTIVE, or changes nothing. -/
theorem listenEnds_cases (s : State) :
    listenEnds s = s ∨ (s.line.state = .listen ∧ sourceOk s.line.address = true ∧ listenEnds s =
      offerOwnBeacon ((s.withLine { s.line with state := .active }).withPeers
        { s.peers with beaconTimer := some (s.now + Config.beaconPeriod) })) := by
  unfold listenEnds
  split
  · exact .inr ⟨‹_ ∧ _›.1, ‹_ ∧ _›.2, rfl⟩
  · exact .inl rfl

theorem periodEnds_cases (s : State) :
    periodEnds s = s ∨ (s.line.state = .active ∧ periodEnds s =
      offerOwnBeacon (s.withPeers { s.peers with beaconTimer := some (s.now + Config.beaconPeriod) })) := by
  unfold periodEnds
  split
  · exact .inr ⟨‹_ ∧ _›.1, rfl⟩
  · exact .inl rfl

theorem offerOwnBeacon_signals (s : State) :
    Signals (s.withPeers { s.peers with image := some s.beaconNow }) (offerOwnBeacon s) := offerBeacon_signals _ _

/-- The COOLDOWN timer of the reset is the lamp's timer. -/
theorem startCooldownTimer_eq (s : State) :
    ∃ x, startCooldownTimer s = s.withLamp { s.lamp with timer := x } ∧ (s.lamp.state = .cooldown → x.isSome = true) := by
  unfold startCooldownTimer
  split
  · exact ⟨_, rfl, fun _ => rfl⟩
  · exact ⟨s.lamp.timer, rfl, fun h => absurd h ‹_›⟩

/-! ## The lock stack -/

theorem signals_lockout {s u : State} (h : Signals s u) : u.lockout = s.lockout := by rw [h.rest]; rfl

@[simp] theorem listenEnds_lockout (s : State) : (listenEnds s).lockout = s.lockout := by
  rcases listenEnds_cases s with h | ⟨-, -, h⟩ <;> simp [h]

@[simp] theorem periodEnds_lockout (s : State) : (periodEnds s).lockout = s.lockout := by
  rcases periodEnds_cases s with h | ⟨-, h⟩ <;> simp [h]

theorem stackLaw_nil : StackLaw [] := ⟨Nat.zero_le _, .nil⟩

theorem stackLaw_kept : Kept fun s => StackLaw s.lockout.stack where
  change {u v} h hp := by
    cases h with
    | lockout x h => exact h hp
    | sends => rw [signals_lockout (attemptSends_signals u)]; exact hp
    | fails => rw [signals_lockout (attemptFails_signals u)]; exact hp
    | _ => simpa using hp
  memory {u v} h hp := by
    cases h with
    | commit x =>
      obtain ⟨l, hl, -⟩ := startCooldownTimer_eq (commitLoad (u.withStore
        { u.store with staged := x, loadIndex := u.store.loadIndex + 1, readTimer := none }))
      rw [hl]
      exact hp
    | writeEnds => exact hp
  duty {u v} h hp := by
    obtain ⟨x, rfl | ⟨-, -, rfl⟩ | ⟨-, -, rfl⟩⟩ := dutyChange_cases h <;> simpa using hp
  write hp := by simpa using hp
  beacon hp := by simpa using hp
  listen hp := by simpa using hp
  period hp := by simpa using hp
  reset _ := stackLaw_nil
  release _ _ _ _ := stackLaw_nil
  waiting _ _ _ hp := hp

/-! ## The tables -/

/-- The laws of the tables, block by block. -/
structure Tables (s : State) : Prop where
  peers : PeersLaw s.line.address s.peers.table
  aliases : AliasLaw s.router.table
  entries : EntriesLaw s.schedule.table
  keystone : KeystoneLaw s.geometry.current s.geometry.presets
  staged : StagedTables s.store.staged

theorem tableLaw_iff (s : State) : TableLaw s ↔ Tables s ∧ StackLaw s.lockout.stack :=
  ⟨fun h => ⟨⟨⟨h.peers, h.notOwn⟩, h.aliases, h.entries, ⟨h.keystone, h.presets⟩, h.stagedAliases, h.stagedEntries,
      h.stagedKeystone, h.stagedPresets⟩, h.depth, h.levels⟩,
    fun ⟨⟨⟨peers, notOwn⟩, aliases, entries, ⟨keystone, presets⟩, stagedAliases, stagedEntries, stagedKeystone,
        stagedPresets⟩, depth, levels⟩ =>
      { peers := peers, notOwn := notOwn, aliases := aliases, stagedAliases := stagedAliases, entries := entries,
        stagedEntries := stagedEntries, keystone := keystone, stagedKeystone := stagedKeystone, presets := presets,
        stagedPresets := stagedPresets, depth := depth, levels := levels }⟩

theorem Tables.congr {s u : State} (h : Tables s) (ha : u.line.address = s.line.address)
    (hp : u.peers.table = s.peers.table) (hr : u.router.table = s.router.table)
    (hs : u.schedule.table = s.schedule.table) (hg : u.geometry = s.geometry)
    (hst : u.store.staged = s.store.staged) : Tables u where
  peers := by rw [ha, hp]; exact h.peers
  aliases := by rw [hr]; exact h.aliases
  entries := by rw [hs]; exact h.entries
  keystone := by rw [hg]; exact h.keystone
  staged := by rw [hst]; exact h.staged

theorem Tables.signals {s u : State} (h : Tables s) (hu : Signals s u) : Tables u := by
  refine h.congr hu.address ?_ ?_ ?_ ?_ ?_ <;> rw [hu.rest] <;> rfl

theorem Tables.latch {s : State} (h : Tables s) (c : Condition) (d : Nat) : Tables (latch c d s) :=
  h.congr (latch_line_kept c d s).2 (by simp) (by simp) (by simp) (by simp) (by simp)

theorem Tables.cooldown {s : State} (h : Tables s) : Tables (enterCooldown s) :=
  h.congr (by simp) (by simp) (by simp) (by simp) (by simp) (by rw [enterCooldown_store])

theorem enterClash_kept (s : State) :
    (enterClash s).line.address = s.line.address ∧ (enterClash s).peers.table = s.peers.table := by
  unfold enterClash
  split <;> exact ⟨rfl, rfl⟩

theorem Tables.ownBeacon {s : State} (h : Tables s) : Tables (offerOwnBeacon s) := by
  have hi : Tables (s.withPeers { s.peers with image := some s.beaconNow }) := h.congr rfl rfl rfl rfl rfl rfl
  exact hi.signals (offerOwnBeacon_signals s)

theorem distinctKeys_empty {α κ : Type} (key : α → κ) (n : Nat) : distinctKeys key (Vector.replicate n none).toList :=
  (distinctKeys_iff _ _).2 fun i j x y _ hx => by simp at hx

theorem keystoneLaw_zero : KeystoneLaw { kv := 0, kh := 0 } (Vector.replicate 4 none) := ⟨rfl, by simp⟩

/-- Empty tables keep their laws, whatever the address. -/
theorem Tables.empty {s : State} (hp : s.peers.table = Vector.replicate 15 none)
    (hr : s.router.table = Vector.replicate 16 none) (hs : s.schedule.table = Vector.replicate 32 none)
    (hk : KeystoneLaw s.geometry.current s.geometry.presets) (hst : s.store.staged = Staged.default) : Tables s where
  peers := by
    rw [hp]
    exact ⟨distinctKeys_empty _ _, by simp⟩
  aliases := by
    rw [hr]
    exact distinctKeys_empty _ _
  entries := by
    rw [hs]
    intro e he
    simp at he
  keystone := hk
  staged := by
    rw [hst]
    exact ⟨distinctKeys_empty _ _, by simp [EntriesLaw, Staged.default], keystoneLaw_zero⟩

theorem Tables.change {u v : State} (h : Change u v) (hp : Tables u) : Tables v := by
  cases h with
  | offer f m => exact hp.signals (offerMarked_signals f m u)
  | latch c d => exact hp.latch c d
  | fault c d => exact (hp.latch c d).cooldown
  | clear c => exact hp.congr (clearCondition_line_kept c u).2 (by simp) (by simp) (by simp) (by simp) (by simp)
  | clash => exact hp.congr (enterClash_kept u).1 (enterClash_kept u).2 (by simp) (by simp) (by simp) (by simp)
  | skip => exact hp.congr rfl rfl rfl rfl rfl rfl
  | attempt => exact hp.congr rfl rfl rfl rfl rfl rfl
  | sends => exact hp.signals (attemptSends_signals u)
  | fails => exact hp.signals (attemptFails_signals u)
  | peers x h => exact { hp with peers := h hp.peers }
  | refused => exact hp.congr rfl rfl rfl rfl rfl rfl
  | strike => exact hp.congr rfl rfl rfl rfl rfl rfl
  | stage => exact hp.congr rfl rfl rfl rfl rfl rfl
  | cool => exact hp.cooldown
  | dark => exact hp.congr rfl rfl rfl rfl rfl rfl
  | hold => exact hp.congr rfl rfl rfl rfl rfl rfl
  | recause => exact hp.congr rfl rfl rfl rfl rfl rfl
  | lampAside => exact hp.congr rfl rfl rfl rfl rfl rfl
  | since => exact hp.congr rfl rfl rfl rfl rfl rfl
  | charge => exact hp.congr (by simp) (by simp) (by simp) (by simp) (by simp) (by rw [restExpired_store]; simp)
  | account => exact hp.congr rfl rfl rfl rfl rfl rfl
  | route x h => exact hp.congr rfl rfl h rfl rfl rfl
  | aliases x h => exact { hp with aliases := h hp.aliases }
  | geometry x h => exact { hp with keystone := h hp.keystone }
  | lockout => exact hp.congr rfl rfl rfl rfl rfl rfl
  | schedule x h => exact { hp with entries := h hp.entries }
  | declined => exact hp.congr rfl rfl rfl rfl rfl rfl
  | dutyEntry => exact hp.congr rfl rfl rfl rfl rfl rfl
  | mark => exact hp.congr (by simp) (by simp) (by simp) (by simp) (by simp) (by rw [mark_store])
  | storeAside x _ _ _ _ hg => exact hp.congr rfl rfl rfl rfl rfl hg
  | advance x _ _ ht => exact { hp with staged := ht hp.staged }

theorem tables_kept : Kept Tables where
  change := Tables.change
  memory {u v} h hp := by
    cases h with
    | commit x _ ht =>
      obtain ⟨l, hl, -⟩ := startCooldownTimer_eq (commitLoad (u.withStore
        { u.store with staged := x, loadIndex := u.store.loadIndex + 1, readTimer := none }))
      rw [hl]
      obtain ⟨ha, he, hk⟩ := ht hp.staged
      exact ⟨hp.peers, ha, he, hk, distinctKeys_empty _ _, (by simp [EntriesLaw, commitLoad, Staged.default]),
        keystoneLaw_zero⟩
    | writeEnds => exact hp.congr rfl rfl rfl rfl rfl rfl
  duty {u v} h hp := by
    obtain ⟨x, rfl | ⟨-, -, rfl⟩ | ⟨-, -, rfl⟩⟩ := dutyChange_cases h
    · exact hp.congr rfl rfl rfl rfl rfl rfl
    · exact hp.congr rfl rfl rfl rfl rfl rfl
    · exact hp.cooldown.congr rfl rfl rfl rfl rfl rfl
  write {u} hp := hp.congr (by simp) (by simp) (by simp) (by simp) (by simp) (by rw [beginWrite_store])
  beacon := Tables.ownBeacon
  listen {u} hp := by
    rcases listenEnds_cases u with h | ⟨-, -, h⟩
    · rwa [h]
    · rw [h]
      exact Tables.ownBeacon (hp.congr rfl rfl rfl rfl rfl rfl)
  period {u} hp := by
    rcases periodEnds_cases u with h | ⟨-, h⟩
    · rwa [h]
    · rw [h]
      exact Tables.ownBeacon (hp.congr rfl rfl rfl rfl rfl rfl)
  reset _ := .empty rfl rfl rfl keystoneLaw_zero rfl
  release _ _ _ _ := .empty rfl rfl rfl keystoneLaw_zero rfl
  waiting _ _ _ hp := hp.congr rfl rfl rfl rfl rfl rfl

/-- Settles O55: the law of the lock stack is one of those that every step keeps, and the level is derived (R130). -/
theorem lockStackLawIsKept : Obligations.LockStackLawIsKept := by
  intro s t hdepth hlevels hstep
  obtain ⟨hd, hl⟩ := stackLaw_kept.step hstep ⟨hdepth, hlevels⟩
  refine ⟨hd, hl, ?_⟩
  unfold State.level topLevel
  cases t.lockout.stack.getLast? <;> rfl

/-- Settles O56: each table keeps its law at every elementary change. -/
theorem tableLawsAreKept : Obligations.TableLawsAreKept := by
  intro s t hs hstep
  rw [tableLaw_iff] at hs ⊢
  exact ⟨tables_kept.step hstep hs.1, stackLaw_kept.step hstep hs.2⟩

end Sys2Proof.Machine
end

section
/-! SUPPORT. The laws of the transmit queue and the failure log are kept by every step. -/

namespace Sys2Proof.Machine

/-! ## A queue with one frame changed -/

theorem mem_modify {α : Type} {g : α → α} {l : List α} {i : Nat} {x : α} (h : x ∈ l.modify i g) :
    x ∈ l ∨ ∃ y, l[i]? = some y ∧ x = g y := by
  obtain ⟨j, hj⟩ := List.mem_iff_getElem?.1 h
  rw [List.getElem?_modify] at hj
  cases hl : l[j]? with
  | none => simp [hl] at hj
  | some y =>
    rw [hl] at hj
    split at hj
    · rename_i hij
      exact .inr ⟨y, hij ▸ hl, by simpa using hj.symm⟩
    · exact .inl (by simpa using (Option.some.inj hj) ▸ List.mem_of_getElem? hl)

theorem countP_modify_of_same {α : Type} {p : α → Bool} {g : α → α} (h : ∀ x, p (g x) = p x) (l : List α) (i : Nat) :
    (l.modify i g).countP p = l.countP p := by
  induction l generalizing i with
  | nil => simp
  | cons a l ih =>
    cases i with
    | zero => simp [List.countP_cons, h]
    | succ i => simp [List.countP_cons, ih]

/-! ## The queue's law under each operation of the line -/

theorem QueueLaw.congr {k l : Line} (h : QueueLaw k) (hs : l.state = k.state) (hq : l.queue = k.queue)
    (ha : l.attempt = k.attempt) (hh : l.heldUpdate = k.heldUpdate) : QueueLaw l where
  room := by rw [hq]; exact h.room
  oneBeacon := by rw [hq]; exact h.oneBeacon
  counts := by rw [hq]; exact h.counts
  silent := by rw [hs, hq, ha, hh]; exact h.silent
  onWire := by rw [ha, hq]; exact h.onWire
  held := by rw [hh, ha, hq]; exact h.held

/-- A frame at the back of a queue with room, a BEACON only where the queue has none (R9 to R11). -/
theorem QueueLaw.join {l : Line} (h : QueueLaw l) (hs : l.state = .active) (hr : l.queue.length < Config.queueSize)
    (f : Frame) (m : Bool) (hf : f.kind ≠ .beacon ∨ l.queue.countP QueuedFrame.isBeacon = 0) :
    QueueLaw { l with queue := l.queue ++ [{ frame := f, attempts := 0, forRestart := m }] } where
  room := by simpa using hr
  oneBeacon := by
    have := h.oneBeacon
    rw [List.countP_append, List.countP_singleton]
    rcases hf with hf | hf
    · simpa [QueuedFrame.isBeacon, hf] using this
    · rw [hf]
      split <;> decide
  counts q hq := by
    rcases List.mem_append.1 hq with hq | hq
    · exact h.counts q hq
    · simp only [List.mem_singleton] at hq
      subst hq
      exact Nat.zero_le _
  silent hn := absurd hs hn
  onWire i hi := by
    have := h.onWire i hi
    simp only [List.length_append]
    omega
  held hn := by
    obtain ⟨i, q, hi, hq, hb⟩ := h.held hn
    exact ⟨i, q, hi, by rw [List.getElem?_append_left (h.onWire i hi)]; exact hq, hb⟩

theorem QueueLaw.rewrite {l : Line} (h : QueueLaw l) (hs : l.state = .active) (i : Nat) (p : List Byte) :
    QueueLaw { l with queue := l.queue.modify i (rewritten p) } where
  room := by simpa using h.room
  oneBeacon := by
    exact (Nat.le_of_eq (countP_modify_of_same (g := rewritten p) (fun _ => rfl) _ _)).trans h.oneBeacon
  counts q hq := by
    rcases mem_modify hq with hq | ⟨q', hq', rfl⟩
    · exact h.counts q hq
    · exact h.counts q' (List.mem_of_getElem? hq')
  silent hn := absurd hs hn
  onWire j hj := by simpa using h.onWire j hj
  held hn := by
    obtain ⟨j, q, hj, hq, hb⟩ := h.held hn
    refine ⟨j, if i = j then rewritten p q else q, hj, ?_, by split <;> exact hb⟩
    simp only [List.getElem?_modify, hq]
    split <;> simp [*]

theorem beaconPlace_none {queue : List QueuedFrame} (h : beaconPlace queue = none) :
    ∀ q ∈ queue, q.isBeacon = false := by
  unfold beaconPlace at h
  rw [List.findIdx?_eq_none_iff] at h
  exact h

theorem QueueLaw.offerBeacon {s : State} (h : QueueLaw s.line) (p : List Byte) : QueueLaw (offerBeacon p s).line := by
  unfold Machine.offerBeacon
  split
  case isFalse => exact h
  case isTrue hs =>
    split
    · rename_i i hi
      split
      · rename_i ha
        obtain ⟨q, hq, hk⟩ := beaconPlace_some hi
        exact { h with silent := fun hn => absurd hs hn, held := fun _ => ⟨i, q, ha, hq, by simp [QueuedFrame.isBeacon, hk]⟩ }
      · exact h.rewrite hs i p
    · rename_i hn
      split
      · rename_i hr
        refine h.join hs (by simpa [State.queueHasRoom] using hr) _ false (.inr ?_)
        rw [List.countP_eq_zero]
        intro q hq
        rw [beaconPlace_none hn q hq]
        decide
      · exact h

/-- The frame of the attempt leaves the queue, or stays with its attempt over. -/
theorem QueueLaw.attemptOver {l : Line} (h : QueueLaw l) {queue : List QueuedFrame} (hl : queue.length ≤ l.queue.length)
    (hb : queue.countP QueuedFrame.isBeacon ≤ l.queue.countP QueuedFrame.isBeacon)
    (hc : ∀ q ∈ queue, q.attempts ≤ Config.maxRetries) :
    QueueLaw { l with queue := queue, attempt := none, heldUpdate := none } where
  room := hl.trans h.room
  oneBeacon := hb.trans h.oneBeacon
  counts := hc
  silent hn := by
    refine ⟨?_, rfl, rfl⟩
    rw [(h.silent hn).1] at hl
    exact List.length_eq_zero_iff.1 (Nat.le_zero.1 hl)
  onWire i hi := by cases hi
  held hn := absurd rfl hn

theorem QueueLaw.without {l : Line} (h : QueueLaw l) (i : Nat) :
    QueueLaw { l with queue := l.queue.eraseIdx i, attempt := none, heldUpdate := none } :=
  h.attemptOver (List.length_eraseIdx_le _ _) ((List.eraseIdx_sublist _ _).countP_le)
    fun q hq => h.counts q ((List.eraseIdx_sublist _ _).subset hq)

/-! ## The log -/

/-- The laws of the transmit queue and of the failure log. -/
def LineOk (s : State) : Prop := QueueLaw s.line ∧ LogLaw s

theorem LineOk.congr {s u : State} (h : LineOk s) (hl : u.line = s.line)
    (hc : u.latched .transmitFailed = s.latched .transmitFailed) : LineOk u :=
  ⟨by rw [hl]; exact h.1, by rw [hl, hc]; exact h.2.exactly, by rw [hl]; exact h.2.overflow⟩

theorem LineOk.same {s u : State} (h : LineOk s) (hl : u.line = s.line) (hc : u.conditions = s.conditions) : LineOk u :=
  h.congr hl (by simp [State.latched, hc])

theorem LogLaw.congr {s u : State} (h : LogLaw s) (hf : u.line.failure = s.line.failure)
    (ho : u.line.overflow = s.line.overflow) (hc : u.latched .transmitFailed = s.latched .transmitFailed) : LogLaw u :=
  ⟨by rw [hf, hc]; exact h.exactly, by rw [hf, ho]; exact h.overflow⟩

theorem queueHasRoom_iff (s : State) : s.queueHasRoom = true ↔ s.line.queue.length < Config.queueSize := by
  simp [State.queueHasRoom]

theorem LineOk.joinQueue {s : State} (h : LineOk s) (hs : s.line.state = .active) (hr : s.queueHasRoom = true)
    {f : Frame} (hf : f.kind ≠ .beacon) (m : Bool) : LineOk (joinQueue f m s) :=
  ⟨h.1.join hs ((queueHasRoom_iff s).1 hr) f m (.inl hf), h.2.congr rfl rfl rfl⟩

theorem LineOk.recordFailure {s : State} (h : LineOk s) (r : FailureRecord) : LineOk (recordFailure r s) := by
  have hexactly := h.2.exactly
  unfold Machine.recordFailure
  split
  · rename_i old hold
    exact ⟨h.1.congr rfl rfl rfl rfl, ⟨hexactly, fun _ => by rw [State.withLine_line, hold]; rfl⟩⟩
  rename_i hnone
  rw [hnone] at hexactly
  dsimp only
  rw [if_neg (by rw [← hexactly]; decide)]
  have hlogged : LineOk ((s.withLine { s.line with failure := some r, overflow := false }).withConditions
      (s.conditions ||| conditionBit .transmitFailed)) := by
    refine ⟨h.1.congr rfl rfl rfl rfl, ⟨?_, nofun⟩⟩
    rw [withConditions_latched, conditions_or]
    simp
  split
  · unfold offerFailureNotice
    split
    · rename_i hs
      split
      · exact hlogged.joinQueue hs ‹_› (f := noticeFrame _ _ _) nofun false
      · exact ⟨hlogged.1.congr rfl rfl rfl rfl, ⟨hlogged.2.exactly, fun _ => rfl⟩⟩
    · exact hlogged
  · exact hlogged

theorem LineOk.offerMarked {s : State} (h : LineOk s) {f : Frame} (hf : f.kind ≠ .beacon) (m : Bool) :
    LineOk (offerMarked f m s) := by
  unfold Machine.offerMarked
  split
  · split
    · exact h.joinQueue ‹_› ‹_› hf m
    · exact h.recordFailure _
  · exact h

theorem LineOk.offerBeacon {s : State} (h : LineOk s) (p : List Byte) : LineOk (offerBeacon p s) := by
  refine ⟨h.1.offerBeacon p, h.2.congr ?_ ?_ ?_⟩
  · rw [(offerBeacon_line_keeps p s).1]
  · rw [(offerBeacon_line_keeps p s).1]
  · simp [State.latched]

theorem LineOk.latch {s : State} (h : LineOk s) {c : Condition} (hc : c ≠ .transmitFailed) (d : Nat) :
    LineOk (latch c d s) := by
  unfold Machine.latch
  split
  · exact h
  have hl : LineOk (s.withConditions (s.conditions ||| conditionBit c)) :=
    h.congr rfl (by rw [withConditions_latched, conditions_or]; simp [hc.symm, State.latched])
  dsimp only
  split
  · exact hl.offerMarked (f := noticeFrame s c d) nofun false
  · exact hl

theorem LineOk.clearCondition {s : State} (h : LineOk s) (c : Condition) : LineOk (clearCondition c s) := by
  have hlatched := clearCondition_latched .transmitFailed c s
  refine ⟨?_, ?_⟩
  · unfold Machine.clearCondition
    dsimp only
    split
    · exact h.1.congr rfl rfl rfl rfl
    · exact h.1
  · by_cases hc : c = .transmitFailed ∧ s.latched c = true
    · have hline : (Machine.clearCondition c s).line = { s.line with failure := none, overflow := false } := by
        simp only [Machine.clearCondition, if_pos hc]
        rfl
      exact ⟨by rw [hlatched, hline, hc.1]; simp, by rw [hline]; nofun⟩
    · have hline : (Machine.clearCondition c s).line = s.line := by
        simp only [Machine.clearCondition, if_neg hc]
        rfl
      refine h.2.congr (by rw [hline]) (by rw [hline]) ?_
      rw [hlatched]
      by_cases hct : c = .transmitFailed
      · subst hct
        simpa using hc
      · simp [Ne.symm hct]

theorem LineOk.enterClash {s : State} (h : LineOk s) : LineOk (enterClash s) := by
  unfold Machine.enterClash
  split
  · exact h
  · refine ⟨?_, h.2.congr rfl rfl rfl⟩
    exact ⟨Nat.zero_le _, Nat.zero_le _, nofun, fun _ => ⟨rfl, rfl, rfl⟩, nofun, fun hn => absurd rfl hn⟩

theorem LineOk.offerHeld {s : State} (h : LineOk s) (x : Option (List Byte)) : LineOk (offerHeld x s) := by
  unfold Machine.offerHeld
  split
  · exact h.offerBeacon _
  · exact h

theorem LineOk.withoutFrame {s : State} (h : LineOk s) (i : Nat) : LineOk (withoutFrame i s) :=
  ⟨h.1.without i, h.2.congr rfl rfl rfl⟩

theorem LineOk.attemptSends {s : State} (h : LineOk s) : LineOk (attemptSends s) := by
  unfold Machine.attemptSends
  split
  · exact h
  · exact (h.withoutFrame _).offerHeld _

theorem LineOk.attemptFails {s : State} (h : LineOk s) : LineOk (attemptFails s) := by
  unfold Machine.attemptFails
  split
  · exact h
  rename_i i _
  split
  · exact ⟨h.1.attemptOver (Nat.le_refl _) (Nat.le_refl _) h.1.counts, h.2.congr rfl rfl rfl⟩
  rename_i q hq
  split
  · exact ((h.withoutFrame i).recordFailure _).offerHeld _
  rename_i hless
  refine ⟨h.1.attemptOver (by simp) (Nat.le_of_eq (countP_modify_of_same (fun x => ?_) _ _)) fun x hx => ?_,
    h.2.congr rfl rfl rfl⟩
  · unfold retried
    dsimp only
    split <;> rfl
  · rcases mem_modify hx with hx | ⟨y, hy, rfl⟩
    · exact h.1.counts x hx
    · obtain rfl : q = y := Option.some.inj (hq.symm.trans hy)
      have hr : (retried s.line.heldUpdate q).attempts = q.attempts + 1 := by
        unfold retried
        dsimp only
        split <;> rfl
      rw [hr]
      omega

theorem lineOk_quiet {s : State} (hq : s.line.queue = []) (ha : s.line.attempt = none) (hh : s.line.heldUpdate = none)
    (hf : s.line.failure = none) (ho : s.line.overflow = false) (hc : s.conditions = 0) : LineOk s where
  left := ⟨by simp [hq], by simp [hq], by simp [hq], fun _ => ⟨hq, ha, hh⟩, by simp [ha], by simp [hh]⟩
  right := ⟨by simp [hf, State.latched, hc], by simp [ho]⟩

theorem LineOk.change {u v : State} (h : Change u v) (hp : LineOk u) : LineOk v := by
  cases h with
  | offer f m hf => exact hp.offerMarked hf m
  | latch c d hc => exact hp.latch hc d
  | fault c d hc => exact (hp.latch hc d).same (by simp) (by simp)
  | clear c => exact hp.clearCondition c
  | clash => exact hp.enterClash
  | skip => exact ⟨hp.1.congr rfl rfl rfl rfl, hp.2.congr rfl rfl rfl⟩
  | attempt i hi ha hn =>
    refine ⟨{ hp.1 with silent := fun h => absurd ha h, onWire := fun j hj => Option.some.inj hj ▸ hi, held := fun h => ?_ },
      hp.2.congr rfl rfl rfl⟩
    obtain ⟨j, -, hj, -⟩ := hp.1.held h
    simp [hn] at hj
  | sends => exact hp.attemptSends
  | fails => exact hp.attemptFails
  | _ => exact hp.same (by simp) (by simp)

theorem LineOk.ownBeacon {s : State} (h : LineOk s) : LineOk (offerOwnBeacon s) :=
  LineOk.offerBeacon (s := s.withPeers { s.peers with image := some s.beaconNow }) (h.congr rfl rfl) _

@[simp] theorem commitLoad_line (s : State) : (commitLoad s).line = s.line := rfl
@[simp] theorem commitLoad_conditions (s : State) : (commitLoad s).conditions = s.conditions := rfl

@[simp] theorem startCooldownTimer_line (s : State) : (startCooldownTimer s).line = s.line := by
  obtain ⟨x, h, -⟩ := startCooldownTimer_eq s
  rw [h]
  rfl

@[simp] theorem startCooldownTimer_conditions (s : State) : (startCooldownTimer s).conditions = s.conditions := by
  obtain ⟨x, h, -⟩ := startCooldownTimer_eq s
  rw [h]
  rfl

theorem lineOk_kept : Kept LineOk where
  change := LineOk.change
  memory {u v} h hp := by
    cases h with
    | commit => exact hp.same (by simp) (by simp)
    | writeEnds => exact hp.same rfl rfl
  duty {u v} h hp := by
    obtain ⟨x, rfl | ⟨-, -, rfl⟩ | ⟨-, -, rfl⟩⟩ := dutyChange_cases h <;>
      exact hp.same (by simp) (by simp)
  write {u} hp := hp.same (by simp) (by simp)
  beacon := LineOk.ownBeacon
  listen {u} hp := by
    rcases listenEnds_cases u with h | ⟨hs, -, h⟩
    · rwa [h]
    · rw [h]
      refine LineOk.ownBeacon ⟨?_, hp.2.congr rfl rfl rfl⟩
      obtain ⟨hq, ha, hh⟩ := hp.1.silent (by simp [hs])
      exact { room := hp.1.room, oneBeacon := hp.1.oneBeacon, counts := hp.1.counts, silent := fun h => absurd rfl h,
              onWire := hp.1.onWire, held := hp.1.held }
  period {u} hp := by
    rcases periodEnds_cases u with h | ⟨-, h⟩
    · rwa [h]
    · rw [h]
      exact LineOk.ownBeacon (hp.same rfl rfl)
  reset _ := lineOk_quiet rfl rfl rfl rfl rfl rfl
  release _ _ _ _ := lineOk_quiet rfl rfl rfl rfl rfl rfl
  waiting _ _ _ hp := hp.same rfl rfl

/-- Settles O54: no elementary change breaks the laws of queue and log. -/
theorem lineLawsAreKept : Obligations.LineLawsAreKept :=
  fun _ _ hq hl hstep => lineOk_kept.step hstep ⟨hq, hl⟩

end Sys2Proof.Machine
end

section
/-! SUPPORT. The laws of lamp and wear are kept by every step. -/

namespace Sys2Proof.Machine

/-! ## What bars a strike -/

theorem lampFaulted_of_latched {s u : State} (h : ∀ c, lampFault c = true → u.latched c = true → s.latched c = true)
    (hu : u.lampFaulted = true) : s.lampFaulted = true := by
  simp only [State.lampFaulted, Bool.or_eq_true] at hu ⊢
  exact hu.imp (Or.imp (h _ rfl) (h _ rfl)) (h _ rfl)

theorem life_expired_iff (s : State) : s.life = .expired ↔ s.store.settings.expiryLimit ≤ s.wear.record.equivalent := by
  unfold State.life lifeStateOf
  constructor
  · intro h
    by_contra hn
    rw [if_neg hn] at h
    split at h
    · cases h
    · split at h <;> cases h
  · intro h
    rw [if_pos h]

theorem barred_iff (s : State) :
    s.barred = true ↔ s.lampFaulted = true ∨ s.store.settings.expiryLimit ≤ s.wear.record.equivalent := by
  simp [State.barred, life_expired_iff]

/-! ## The law, for states that share what it reads -/

/-- A state with the lamp's stage, the account and the load of `s`, in which every bar is one of `s` or finds the lamp at
rest. -/
theorem LampLaw.congr {s u : State} (h : LampLaw s)
    (hl : u.lamp.state = s.lamp.state ∧ u.lamp.timer = s.lamp.timer ∧ u.lamp.cause = s.lamp.cause ∧
      u.lamp.heldStrike = s.lamp.heldStrike)
    (hf : ∀ c, lampFault c = true → u.latched c = true → s.latched c = true ∨ lampOn s.lamp.state = false)
    (hw : u.wear.record = s.wear.record) (hx : u.store.settings = s.store.settings)
    (hg : u.store.staged = s.store.staged) (hi : u.store.loadIndex = s.store.loadIndex) : LampLaw u := by
  obtain ⟨hstate, htimer, hcause, hheld⟩ := hl
  refine
    { bar := fun hb => ?_
      cause := by rw [hcause, hstate]; exact h.cause
      heldStrike := by rw [hheld, hstate]; exact h.heldStrike
      heldCause := by rw [hheld]; exact h.heldCause
      residue := by rw [hw]; exact h.residue
      bound := by rw [hw, hx]; exact h.bound
      stagedResidue := by rw [hg]; exact h.stagedResidue
      stagedBound := by rw [hg]; exact h.stagedBound
      unread := by rw [hg, hi]; exact h.unread
      loading := by rw [hstate, htimer, State.loaded, hi]; exact h.loading }
  rw [hstate]
  cases hon : lampOn s.lamp.state with
  | false => rfl
  | true =>
    rw [hon] at hf
    rw [barred_iff, hw, hx] at hb
    have hbs : s.barred = true :=
      (barred_iff s).2 (hb.imp_left (lampFaulted_of_latched fun c hc hu => (hf c hc hu).resolve_right (by simp)))
    rw [h.bar hbs] at hon
    cases hon

/-- The same with the lamp, the conditions and the Store's records untouched. -/
theorem LampLaw.same {s u : State} (h : LampLaw s) (hl : u.lamp = s.lamp) (hc : u.conditions = s.conditions)
    (hw : u.wear.record = s.wear.record) (hx : u.store.settings = s.store.settings)
    (hg : u.store.staged = s.store.staged) (hi : u.store.loadIndex = s.store.loadIndex) : LampLaw u :=
  h.congr (by rw [hl]; exact ⟨rfl, rfl, rfl, rfl⟩) (fun c _ hu => .inl (by simpa [State.latched, hc] using hu)) hw hx hg hi

theorem LampLaw.signals {s u : State} (h : LampLaw s) (hu : Signals s u) : LampLaw u := by
  refine h.congr ?_ (fun c hc hl => .inl ?_) ?_ ?_ ?_ ?_
  · rw [hu.rest]; exact ⟨rfl, rfl, rfl, rfl⟩
  · rwa [hu.latched c (by rintro rfl; cases hc)] at hl
  all_goals rw [hu.rest]; rfl

theorem latched_or (s : State) (c d : Condition) :
    (s.withConditions (s.conditions ||| conditionBit d)).latched c = (s.latched c || decide (c = d)) :=
  conditions_or s.conditions c d

theorem latch_latched {c d : Condition} {n : Nat} {s : State} (hc : c ≠ .transmitFailed)
    (h : (latch d n s).latched c = true) : s.latched c = true ∨ c = d := by
  rcases latch_cases d n s with e | ⟨-, hs⟩
  · exact .inl (by rwa [e] at h)
  · rw [hs.latched c hc, latched_or] at h
    simpa using h

theorem LampLaw.latch {s : State} (h : LampLaw s) {c : Condition}
    (hc : lampFault c = true → lampOn s.lamp.state = false) (d : Nat) : LampLaw (latch c d s) := by
  refine h.congr (by simp) (fun x hx hu => ?_) (by simp) (by simp) (by simp) (by simp)
  rcases latch_latched (by rintro rfl; cases hx) hu with hl | rfl
  · exact .inl hl
  · exact .inr (hc hx)

/-! ## Cool-down and the charges -/

/-- A lamp on is one whose load has completed (R74). -/
theorem LampLaw.loaded_of_not_cooldown {s : State} (h : LampLaw s) (hs : s.lamp.state ≠ .cooldown) : s.loaded = true := by
  by_contra hn
  exact hs (h.loading (by simpa using hn)).1

theorem lampOn_ne_cooldown {l : LampState} (h : lampOn l = true) : l ≠ .cooldown := by rintro rfl; cases h

/-- Entry into COOLDOWN keeps the law, and settles a bar, once the account is within its bound. -/
theorem lampLaw_cooldown {s : State} (hr : s.wear.record.residue ≤ 15)
    (hb : s.wear.record.equivalent < s.store.settings.expiryLimit + 900)
    (hst : StagedWear s.store.loadIndex s.store.staged) (hl : s.loaded = true) : LampLaw (enterCooldown s) := by
  have hstore := enterCooldown_store s
  have hwear : (enterCooldown s).wear.record = s.wear.record := by
    rw [enterCooldown_wear]; split <;> rfl
  exact
    { bar := fun _ => rfl
      cause := by simp [enterCooldown, lampOn]
      heldStrike := fun h => absurd rfl h
      heldCause := nofun
      residue := by rw [hwear]; exact hr
      bound := by rw [hwear, hstore]; exact hb
      stagedResidue := by rw [hstore]; exact hst.1
      stagedBound := by rw [hstore]; exact hst.2.1
      unread := by rw [hstore]; exact hst.2.2
      loading := fun h => by
        have hsame : (enterCooldown s).loaded = s.loaded := by rw [State.loaded, hstore]; rfl
        rw [hsame, hl] at h
        cases h }

theorem LampLaw.staged {s : State} (h : LampLaw s) : StagedWear s.store.loadIndex s.store.staged :=
  ⟨h.stagedResidue, h.stagedBound, h.unread⟩

theorem LampLaw.cool {s : State} (h : LampLaw s) (hon : lampOn s.lamp.state = true) : LampLaw (enterCooldown s) :=
  lampLaw_cooldown h.residue h.bound h.staged (h.loaded_of_not_cooldown (lampOn_ne_cooldown hon))

/-- A lamp that is on has not expired: a charge of at most 900 leaves E within its bound, and one that expires the lamp
takes it into COOLDOWN (R73, R84). -/
theorem LampLaw.charge {s : State} (h : LampLaw s) (hon : lampOn s.lamp.state = true) {r : WearRecord}
    (hr : r.residue ≤ 15 ∧ r.equivalent ≤ s.wear.record.equivalent + 900) :
    LampLaw (restExpired (s.withWear { s.wear with record := r })) := by
  have hfree : ¬ s.barred = true := fun hb => by rw [h.bar hb] at hon; cases hon
  have hlow : s.wear.record.equivalent < s.store.settings.expiryLimit :=
    Nat.lt_of_not_le fun hle => hfree ((barred_iff s).2 (.inr hle))
  have hbound : r.equivalent < s.store.settings.expiryLimit + 900 := by omega
  have hloaded := h.loaded_of_not_cooldown (lampOn_ne_cooldown hon)
  rcases restExpired_cases (s.withWear { s.wear with record := r }) with ⟨e, hn⟩ | ⟨-, -, e⟩
  · rw [e]
    refine { h with bar := fun hb => ?_, residue := hr.1, bound := hbound }
    rw [barred_iff] at hb
    rcases hb with hb | hb
    · exact absurd ((barred_iff s).2 (.inl hb)) hfree
    · exact absurd ⟨(life_expired_iff _).2 hb, hon⟩ hn
  · rw [e]
    exact lampLaw_cooldown hr.1 hbound h.staged hloaded

/-- A strike of a lamp at rest, by an allowed cause. -/
theorem LampLaw.strike {s : State} (h : LampLaw s) {c : LitCause} (hc : c ≠ .noCause) (hb : s.barred = false)
    (hl : s.loaded = true) : LampLaw (enterPreheat c s) :=
  { h with
    bar := fun hb' => by
      have : s.barred = true := hb'
      rw [hb] at this
      cases this
    cause := by simp [enterPreheat, lampOn, hc]
    heldStrike := fun hn => absurd rfl hn
    heldCause := nofun
    loading := fun hn => by
      have : s.loaded = false := hn
      rw [hl] at this
      cases this }

theorem ordered_ne_noCause {c : LitCause} (h : c.ordered) : c ≠ .noCause := by
  rcases h with rfl | rfl <;> decide

/-! ## Every change -/

theorem LampLaw.loaded_of_timer {s : State} (h : LampLaw s) (ht : s.lamp.timer.isSome = true) : s.loaded = true := by
  by_contra hn
  rw [(h.loading (by simpa using hn)).2] at ht
  cases ht

theorem LampLaw.change {u v : State} (h : Change u v) (hp : LampLaw u) : LampLaw v := by
  cases h with
  | offer f m => exact hp.signals (offerMarked_signals f m u)
  | latch c d _ hl => exact hp.latch hl d
  | fault c d _ hl =>
    exact lampLaw_cooldown (by simpa using hp.residue) (by simpa using hp.bound) (by simpa using hp.staged)
      (by simpa [State.loaded] using hp.loaded_of_not_cooldown (lampOn_ne_cooldown hl))
  | clear c =>
    refine hp.congr (by simp) (fun x _ hu => .inl ?_) (by simp) (by simp) (by simp) (by simp)
    rw [clearCondition_latched, Bool.and_eq_true] at hu
    exact hu.1
  | clash => exact hp.same (by simp) (by simp) (by simp) (by simp) (by simp) (by simp)
  | sends => exact hp.signals (attemptSends_signals u)
  | fails => exact hp.signals (attemptFails_signals u)
  | strike c hc hb hs =>
    have hcause : c ≠ .noCause := ordered_ne_noCause (hc.elim id (hp.heldCause c))
    have hloaded : u.loaded = true :=
      hs.elim (fun hs => hp.loaded_of_not_cooldown (by simp [hs])) fun hs => hp.loaded_of_timer hs.2
    exact hp.strike hcause hb hloaded
  | stage x hs hx hc hh =>
    exact
      { hp with
        bar := fun hb => absurd (hp.bar hb) (by simp [hs])
        cause := by rw [State.withLamp_lamp, hc, hp.cause, hs, hx]
        heldStrike := fun hn => absurd (hp.heldStrike (by rwa [← hh])) (lampOn_ne_cooldown hs)
        heldCause := fun c hcx => hp.heldCause c (by rwa [← hh])
        loading := fun hn => absurd (hp.loading hn).1 (lampOn_ne_cooldown hs) }
  | cool hs => exact hp.cool hs
  | dark hs ht =>
    have hloaded := hp.loaded_of_timer ht
    exact
      { hp with
        bar := fun _ => rfl
        cause := by
          have := hp.cause
          rw [hs] at this
          simpa [lampOn] using this
        heldStrike := fun hn => absurd rfl hn
        heldCause := nofun
        loading := fun hn => absurd (hloaded.symm.trans hn) (by decide) }
  | hold x hs hx =>
    exact { hp with heldStrike := fun _ => hs, heldCause := hx }
  | recause c hs hc =>
    exact { hp with cause := by simp [hs, ordered_ne_noCause hc] }
  | lampAside x hs ht hc hh =>
    exact hp.congr ⟨hs, ht, hc, hh⟩ (fun _ _ hu => .inl hu) rfl rfl rfl rfl
  | charge r hs hr => exact hp.charge hs (hr hp.residue)
  | account label =>
    refine { hp with bar := fun hb => hp.bar ?_, residue := Nat.zero_le _, bound := ?_ }
    · rw [barred_iff] at hb ⊢
      exact hb.imp id fun hle => Nat.le_trans hle (Nat.zero_le _)
    · exact Nat.lt_of_lt_of_le (Nat.zero_lt_succ 899) (Nat.le_add_left _ _)
  | mark r => exact hp.same (by simp) (by simp) (by simp) (by rw [mark_store]) (by rw [mark_store]) (by rw [mark_store])
  | storeAside x _ _ hi hs hg => exact hp.same rfl rfl rfl hs hg hi
  | advance x timer hi _ hw =>
    obtain ⟨h1, h2, h3⟩ := hw hp.staged
    exact
      { hp with
        stagedResidue := h1
        stagedBound := h2
        unread := h3
        loading := fun _ => hp.loading (by simpa [State.loaded] using Nat.lt_of_succ_lt hi) }
  | _ => exact hp.same rfl rfl rfl rfl rfl rfl

theorem LampLaw.release {s : State} (h : LampLaw s) (x : Duty) : LampLaw (s.withDuty x) :=
  h.same rfl rfl rfl rfl rfl rfl

theorem LampLaw.ownBeacon {s : State} (h : LampLaw s) : LampLaw (offerOwnBeacon s) :=
  LampLaw.signals (s := s.withPeers { s.peers with image := some s.beaconNow }) (h.same rfl rfl rfl rfl rfl rfl)
    (offerOwnBeacon_signals s)

theorem stagedDefault_bound : Staged.default.wear.equivalent < Staged.default.settings.expiryLimit + 900 := by decide

/-- The account read by a load is that of a lamp in COOLDOWN (R74, R89). -/
theorem LampLaw.commit {s : State} (h : LampLaw s) {x : Staged} (hi : s.store.loadIndex + 1 = Config.recordCount)
    (hw : StagedWear s.store.loadIndex s.store.staged → StagedWear (s.store.loadIndex + 1) x) :
    LampLaw (startCooldownTimer (commitLoad (s.withStore
      { s.store with staged := x, loadIndex := s.store.loadIndex + 1, readTimer := none }))) := by
  have hloaded : s.loaded = false := by
    rw [← Bool.not_eq_true, loaded_iff]
    omega
  obtain ⟨hcool, -⟩ := h.loading hloaded
  obtain ⟨hresidue, hbound, -⟩ := hw h.staged
  obtain ⟨l, hl, -⟩ := startCooldownTimer_eq (commitLoad (s.withStore
    { s.store with staged := x, loadIndex := s.store.loadIndex + 1, readTimer := none }))
  have hrest : lampOn s.lamp.state = false := by rw [hcool]; rfl
  rw [hl]
  exact
    { bar := fun _ => hrest
      cause := h.cause
      heldStrike := h.heldStrike
      heldCause := h.heldCause
      residue := hresidue
      bound := hbound
      stagedResidue := Nat.zero_le _
      stagedBound := stagedDefault_bound
      unread := fun _ => rfl
      loading := fun hn => by
        have := (loaded_iff _).not.1 (by rw [hn]; decide)
        exact absurd (Nat.le_of_eq hi.symm) this }

theorem lampLaw_reset {s : State} (hl : s.lamp = { Lamp.reset with sense := s.lamp.sense }) (hw : s.wear = Wear.reset)
    (hs : s.store.settings = Settings.default) (hg : s.store.staged = Staged.default) :
    LampLaw s where
  bar _ := by rw [hl]; rfl
  cause := by rw [hl]; exact ⟨fun _ => rfl, fun _ => rfl⟩
  heldStrike := by rw [hl]; exact fun h => absurd rfl h
  heldCause := by rw [hl]; nofun
  residue := by rw [hw]; decide
  bound := by rw [hw, hs]; decide
  stagedResidue := by rw [hg]; decide
  stagedBound := by rw [hg]; decide
  unread _ := by rw [hg]; rfl
  loading _ := by rw [hl]; exact ⟨rfl, rfl⟩

theorem lampLaw_kept : Kept LampLaw where
  change := LampLaw.change
  memory {u v} h hp := by
    cases h with
    | commit x hi _ hw => exact hp.commit hi hw
    | writeEnds => exact hp.same rfl rfl rfl rfl rfl rfl
  duty {u v} h hp := by
    obtain ⟨x, rfl | ⟨hs, hb, rfl⟩ | ⟨hs, -, rfl⟩⟩ := dutyChange_cases h
    · exact hp.release x
    · exact (hp.strike (c := .schedule) nofun hb (hp.loaded_of_not_cooldown (by simp [hs]))).release x
    · exact (hp.cool hs).release x
  write {u} hp := by
    have := beginWrite_store u
    exact hp.same (by simp) (by simp) (by simp) (by rw [this]) (by rw [this]) (by rw [this])
  beacon := LampLaw.ownBeacon
  listen {u} hp := by
    rcases listenEnds_cases u with h | ⟨-, -, h⟩
    · rwa [h]
    · rw [h]
      exact LampLaw.ownBeacon (hp.same rfl rfl rfl rfl rfl rfl)
  period {u} hp := by
    rcases periodEnds_cases u with h | ⟨-, h⟩
    · rwa [h]
    · rw [h]
      exact LampLaw.ownBeacon (hp.same rfl rfl rfl rfl rfl rfl)
  reset _ := lampLaw_reset rfl rfl rfl rfl
  release _ _ _ _ := lampLaw_reset rfl rfl rfl rfl
  waiting _ _ _ hp := hp.same rfl rfl rfl rfl rfl rfl

/-- Settles O57: a lamp that is on is not expired, so no charge carries E past its bound (R84). -/
theorem lampLawsAreKept : Obligations.LampLawsAreKept := fun _ _ hs hstep => lampLaw_kept.step hstep hs

end Sys2Proof.Machine
end

section
/-! SUPPORT. The laws of Shared Duty, of the Store and of the change watch are kept by every step. Each of them speaks of
what follows a command, so each is reached through what the command's own operation leaves it. -/

namespace Sys2Proof.Machine

/-! ## Shared Duty: what its law needs of the lamp -/

/-- A lamp lit by the schedule is on, and a held strike is an order's or a key's. -/
structure LitRight (s : State) : Prop where
  lit : s.lamp.cause = .schedule → lampOn s.lamp.state = true
  heldCause : ∀ c, s.lamp.heldStrike = some c → c.ordered

/-- And a lamp lit by the schedule has a governing entry and is not declined (R64). -/
structure Entitled (s : State) : Prop extends LitRight s where
  schedule : s.lamp.cause = .schedule → s.duty.entryGroup ≠ none ∧ s.duty.declined = false

theorem dutyLaw_iff (s : State) : DutyLaw s ↔ Entitled s ∧ s.duty.offer = s.offerNow :=
  ⟨fun h => ⟨⟨⟨h.lit, h.heldCause⟩, h.schedule⟩, h.offer⟩, fun h => ⟨h.2, h.1.schedule, h.1.lit, h.1.heldCause⟩⟩

theorem offerNow_some {s : State} (h : s.offerNow ≠ none) : s.duty.entryGroup ≠ none ∧ s.duty.declined = false := by
  unfold State.offerNow at h
  split at h
  · rename_i hc
    obtain ⟨-, -, -, -, hdeclined, -⟩ := hc
    exact ⟨h, hdeclined⟩
  · exact absurd rfl h

theorem litRight_of_cooldown {s : State} : LitRight (enterCooldown s) where
  lit h := by cases h
  heldCause := nofun

theorem entitled_of_cooldown {s : State} : Entitled (enterCooldown s) where
  toLitRight := litRight_of_cooldown
  schedule h := by cases h

/-! ## One evaluation, and the chain of them -/

/-- One evaluation leaves the law, or has just released the lamp (R166, R169). -/
theorem evaluateOnce_law (b : Bool) {s : State} (h : LitRight s) :
    (DutyLaw (evaluateOnce b s) ∧ (evaluateOnce b s).lamp = s.lamp) ∨
      (s.lamp.state = .dark ∧ DutyLaw (evaluateOnce b s) ∧ (evaluateOnce b s).lamp.state = .preheat) ∨
      (lampOn s.lamp.state = true ∧ Entitled (evaluateOnce b s) ∧ (evaluateOnce b s).lamp.state = .cooldown) := by
  obtain ⟨d, ⟨e, hn⟩ | ⟨hd, hs, -, e⟩ | ⟨hs, -, -, e⟩⟩ := actOnDecision_cases b (deriveOffer s)
  · refine .inl ⟨(dutyLaw_iff _).2 ⟨⟨⟨?_, ?_⟩, fun hc => ?_⟩, ?_⟩, ?_⟩ <;> rw [evaluateOnce, e] at *
    · exact h.lit
    · exact h.heldCause
    · refine offerNow_some (s := s) fun hnone => hn ⟨h.lit hc, hc, .inr ?_⟩
      simp [State.decision, deriveOffer, hnone]
    · rfl
    · rfl
  · have hoffer : s.offerNow ≠ none := by
      obtain ⟨g, hg, -⟩ := (decision_on_iff _).1 hd
      have hg : s.offerNow = some g := hg
      rw [hg]
      nofun
    have hsame := (decision_after_strike hd hs d).1
    refine .inr (.inl ⟨hs, ?_⟩)
    rw [evaluateOnce, e]
    exact ⟨(dutyLaw_iff _).2 ⟨⟨⟨fun _ => rfl, nofun⟩, fun _ => offerNow_some (s := s) hoffer⟩, hsame.symm⟩, rfl⟩
  · refine .inr (.inr ⟨hs, ?_⟩)
    rw [evaluateOnce, e]
    exact ⟨entitled_of_cooldown, rfl⟩

theorem DutyLaw.litRight {s : State} (h : DutyLaw s) : LitRight s := ⟨h.lit, h.heldCause⟩

/-- A lamp in COOLDOWN is left there by an evaluation. -/
theorem evaluateChain_cooldown (n : Nat) {s : State} (h : LitRight s) (hs : s.lamp.state = .cooldown) :
    DutyLaw (evaluateChain (n + 1) s) := by
  obtain ⟨hl, he⟩ | ⟨hd, -⟩ | ⟨hd, -⟩ := evaluateOnce_law false h
  · simp only [evaluateChain]
    rwa [if_pos (by rw [he])]
  · rw [hs] at hd; cases hd
  · rw [hs] at hd; cases hd

theorem evaluateChain_on (n : Nat) {s : State} (h : LitRight s) (hs : lampOn s.lamp.state = true) :
    DutyLaw (evaluateChain (n + 2) s) := by
  obtain ⟨hl, he⟩ | ⟨hd, -⟩ | ⟨-, hl, hc⟩ := evaluateOnce_law false h
  · unfold evaluateChain
    dsimp only
    rwa [if_pos (by rw [he])]
  · rw [hd] at hs; cases hs
  · unfold evaluateChain
    dsimp only
    rw [if_neg (by rw [hc]; exact fun e => lampOn_ne_cooldown hs e.symm)]
    exact evaluateChain_cooldown n hl.toLitRight hc

/-- A chain of evaluations leaves the law of Shared Duty, whatever it meets (R160, R169). -/
theorem evaluate_dutyLaw {s : State} (h : LitRight s) : DutyLaw (evaluate s) := by
  cases hs : s.lamp.state
  case dark =>
    obtain ⟨hl, he⟩ | ⟨-, hl, hp⟩ | ⟨hd, -⟩ := evaluateOnce_law false h
    · show DutyLaw (evaluateChain 3 s)
      unfold evaluateChain
      dsimp only
      rwa [if_pos (by rw [he])]
    · show DutyLaw (evaluateChain 3 s)
      unfold evaluateChain
      dsimp only
      rw [if_neg (by rw [hp, hs]; decide)]
      exact evaluateChain_on 0 hl.litRight (by rw [hp]; rfl)
    · rw [hs] at hd; cases hd
  case cooldown => exact evaluateChain_cooldown 2 h hs
  all_goals exact evaluateChain_on 1 h (by rw [hs]; rfl)

theorem evaluates_dutyLaw {s v : State} (h : LitRight s) (hv : Evaluates s v) : DutyLaw v := by
  cases hv with
  | evaluate => exact evaluate_dutyLaw h
  | ends => exact evaluate_dutyLaw (s := takeDutyEntry none none s) ⟨h.lit, h.heldCause⟩

/-! ## Every change -/

theorem LitRight.congr {s u : State} (h : LitRight s) (hl : u.lamp = s.lamp) : LitRight u :=
  ⟨by rw [hl]; exact h.lit, by rw [hl]; exact h.heldCause⟩

theorem Entitled.congr {s u : State} (h : Entitled s) (hl : u.lamp = s.lamp) (hd : u.duty = s.duty) : Entitled u :=
  ⟨h.toLitRight.congr hl, by rw [hl, hd]; exact h.schedule⟩

theorem signals_lamp_duty {s u : State} (h : Signals s u) : u.lamp = s.lamp ∧ u.duty = s.duty := by
  rw [h.rest]; exact ⟨rfl, rfl⟩

theorem ordered_ne_schedule {c : LitCause} (h : c.ordered) : c ≠ .schedule := by
  rcases h with rfl | rfl <;> decide

/-- No elementary change takes the schedule's lamp its right, and none touches the offer. -/
theorem Entitled.change {u v : State} (h : Change u v) (hp : Entitled u) : Entitled v ∧ v.duty.offer = u.duty.offer := by
  cases h with
  | sends =>
    obtain ⟨hl, hd⟩ := signals_lamp_duty (attemptSends_signals u)
    exact ⟨hp.congr hl hd, by rw [hd]⟩
  | fails =>
    obtain ⟨hl, hd⟩ := signals_lamp_duty (attemptFails_signals u)
    exact ⟨hp.congr hl hd, by rw [hd]⟩
  | fault => exact ⟨entitled_of_cooldown, by simp⟩
  | cool => exact ⟨entitled_of_cooldown, by simp⟩
  | strike c hc =>
    have ho : c ≠ .schedule := ordered_ne_schedule (hc.elim id (hp.heldCause c))
    exact ⟨⟨⟨fun e => absurd e ho, nofun⟩, fun e => absurd e ho⟩, rfl⟩
  | stage x _ hx hc hh =>
    exact ⟨⟨⟨fun _ => hx, by rw [State.withLamp_lamp, hh]; exact hp.heldCause⟩,
      by rw [State.withLamp_lamp, hc]; exact hp.schedule⟩, rfl⟩
  | dark hs =>
    have hno : u.lamp.cause ≠ .schedule := fun e => by
      have := hp.lit e
      rw [hs] at this
      cases this
    exact ⟨⟨⟨fun e => absurd e hno, nofun⟩, fun e => absurd e hno⟩, rfl⟩
  | hold x _ hx => exact ⟨⟨⟨hp.lit, hx⟩, hp.schedule⟩, rfl⟩
  | recause c _ hc =>
    have ho := ordered_ne_schedule hc
    exact ⟨⟨⟨fun e => absurd e ho, hp.heldCause⟩, fun e => absurd e ho⟩, rfl⟩
  | lampAside x hs _ hc hh =>
    exact ⟨⟨⟨by rw [State.withLamp_lamp, hc, hs]; exact hp.lit, by rw [State.withLamp_lamp, hh]; exact hp.heldCause⟩,
      by rw [State.withLamp_lamp, hc]; exact hp.schedule⟩, rfl⟩
  | charge r =>
    rcases restExpired_cases (u.withWear { u.wear with record := r }) with ⟨e, -⟩ | ⟨-, -, e⟩
    · rw [e]; exact ⟨hp.congr rfl rfl, rfl⟩
    · rw [e]; exact ⟨entitled_of_cooldown, by simp⟩
  | declined b hb =>
    refine ⟨⟨⟨hp.lit, hp.heldCause⟩, fun e => ⟨(hp.schedule e).1, ?_⟩⟩, rfl⟩
    cases b with
    | false => rfl
    | true => exact absurd e (hb rfl)
  | dutyEntry => exact ⟨⟨⟨hp.lit, hp.heldCause⟩, fun _ => ⟨nofun, rfl⟩⟩, rfl⟩
  | _ => exact ⟨hp.congr (by simp) (by simp), by simp⟩

theorem entitled_memory {u v : State} (h : MemoryChange u v) (hp : Entitled u) :
    Entitled v ∧ v.duty.offer = u.duty.offer := by
  cases h with
  | commit x =>
    obtain ⟨l, hl, -⟩ := startCooldownTimer_eq (commitLoad (u.withStore
      { u.store with staged := x, loadIndex := u.store.loadIndex + 1, readTimer := none }))
    rw [hl]
    exact ⟨⟨⟨hp.lit, hp.heldCause⟩, hp.schedule⟩, rfl⟩
  | writeEnds => exact ⟨hp.congr rfl rfl, rfl⟩

/-- What a command's operation leaves of the law: the right of the schedule's lamp, and the offer that stood or the one
R160 derives. -/
def DutyLeft (s u : State) : Prop := Entitled u ∧ (u.duty.offer = s.duty.offer ∨ u.duty.offer = u.offerNow)

theorem changes_dutyLeft {s u : State} (h : Changes s u) (hp : Entitled s) :
    Entitled u ∧ u.duty.offer = s.duty.offer :=
  changes_keep (P := fun x => Entitled x ∧ x.duty.offer = s.duty.offer)
    (fun hc hx => (hx.1.change hc).imp_right fun e => e.trans hx.2) h ⟨hp, rfl⟩

theorem DutyLaw.signals {s u : State} (h : DutyLaw s) (hu : Signals s u) : DutyLaw u := by
  rw [dutyLaw_iff] at h ⊢
  obtain ⟨hl, hd⟩ := signals_lamp_duty hu
  refine ⟨h.1.congr hl hd, ?_⟩
  have hfault : u.lampFaulted = s.lampFaulted := by
    simp only [State.lampFaulted]
    rw [hu.latched _ (by decide), hu.latched _ (by decide), hu.latched _ (by decide)]
  have hlife : u.life = s.life := by rw [hu.rest]; rfl
  rw [hd, h.2]
  simp only [State.offerNow, hu.state, hfault, hlife, hl, hd]

theorem Answered.signals {s u : State} : Answered s u → Signals s u
  | .inl h => h ▸ .refl s
  | .inr ⟨f, m, _, h⟩ => h ▸ offerMarked_signals f m s

theorem does_dutyLeft {s u : State} (h : Does s u) (hp : Entitled s) : DutyLeft s u := by
  cases h with
  | plain h => exact (changes_dutyLeft h hp).imp_right .inl
  | memory h =>
    obtain ⟨he, ho⟩ := memoryChanges_keep (P := fun x => Entitled x ∧ x.duty.offer = s.duty.offer)
      (fun hc hx => (hx.1.change hc).imp_right fun e => e.trans hx.2)
      (fun hc hx => (entitled_memory hc hx.1).imp_right fun e => e.trans hx.2) h ⟨hp, rfl⟩
    exact ⟨he.congr (by simp) (by simp), .inl (by simpa using ho)⟩
  | evaluates h hd ha =>
    have hlaw := (evaluates_dutyLaw (changes_dutyLeft h hp).1.toLitRight hd).signals ha.signals
    exact ((dutyLaw_iff _).1 hlaw).imp_right .inr

/-- The offer is derived from what Shared Duty watches (R160, R162). -/
theorem offerNow_of_sources {s u : State} (h : u.dutySources = s.dutySources) : u.offerNow = s.offerNow := by
  have hlamp : u.lamp.state = s.lamp.state := congrArg DutySources.lamp h
  have hcond : u.conditions = s.conditions := congrArg DutySources.conditions h
  have hlife : u.life = s.life := congrArg DutySources.life h
  have hdeclined : u.duty.declined = s.duty.declined := congrArg DutySources.declined h
  have hline : u.line.state = s.line.state := congrArg DutySources.line h
  have hgroup : u.duty.entryGroup = s.duty.entryGroup := congrArg DutySources.group h
  have hfault : u.lampFaulted = s.lampFaulted := by simp only [State.lampFaulted, State.latched, hcond]
  simp only [State.offerNow, hlamp, hfault, hlife, hdeclined, hline, hgroup]

/-- Shared Duty's watch restores the law (R162). -/
theorem dutyWatch_law {s u : State} (hs : DutyLaw s) (hu : Entitled u)
    (ho : u.dutySources = s.dutySources → u.duty.offer = s.duty.offer ∨ u.duty.offer = u.offerNow) :
    DutyLaw (dutyWatch s u) := by
  unfold dutyWatch
  split
  · rename_i h
    refine (dutyLaw_iff u).2 ⟨hu, (ho h).elim (fun e => ?_) id⟩
    rw [e, hs.offer, offerNow_of_sources h]
  · exact evaluate_dutyLaw hu.toLitRight

theorem DutyLaw.withStore {s : State} (h : DutyLaw s) (x : Store) (hx : x.settings = s.store.settings) :
    DutyLaw (s.withStore x) := by
  rw [dutyLaw_iff] at h ⊢
  refine ⟨h.1.congr rfl rfl, h.2.trans ?_⟩
  have hlife : (s.withStore x).life = s.life := by simp only [State.life, State.withStore_store, hx]; rfl
  simp only [State.offerNow, hlife]
  rfl

theorem DutyLaw.beginWrite {s : State} (h : DutyLaw s) : DutyLaw (beginWrite s) := by
  unfold Machine.beginWrite
  split
  · split
    · exact h.withStore _ rfl
    · exact h
  · exact h

theorem DutyLaw.withPeers {s : State} (h : DutyLaw s) (x : Peers) : DutyLaw (s.withPeers x) :=
  ⟨h.offer, h.schedule, h.lit, h.heldCause⟩

theorem DutyLaw.settle {s u : State} (hs : DutyLaw s) (hu : Entitled u)
    (ho : u.dutySources = s.dutySources → u.duty.offer = s.duty.offer ∨ u.duty.offer = u.offerNow) :
    DutyLaw (settle s u) := by
  have hd := dutyWatch_law hs hu ho
  have hc : DutyLaw (changeWatch s (dutyWatch s u)) := by
    unfold changeWatch
    split
    · exact (hd.withPeers _).signals (offerOwnBeacon_signals _)
    · exact hd
  unfold Machine.settle writeWatch
  dsimp only
  split
  · exact hc
  · exact hc.beginWrite

theorem DutyLaw.keepTick {s : State} (h : DutyLaw s) : DutyLaw (keepTick s) :=
  ⟨h.offer, h.schedule, h.lit, h.heldCause⟩

theorem DutyLaw.entitled {s : State} (h : DutyLaw s) : Entitled s := ((dutyLaw_iff s).1 h).1

theorem dutyLaw_reset {s : State} (hl : s.lamp = { Lamp.reset with sense := s.lamp.sense }) (hd : s.duty = Duty.reset) :
    DutyLaw s where
  offer := by rw [offerNow_cooldown (by rw [hl]; rfl), hd]; rfl
  schedule := by rw [hl]; exact fun h => by cases h
  lit := by rw [hl]; exact fun h => by cases h
  heldCause := by rw [hl]; nofun

theorem DutyLaw.next {s t : State} (h : Next s t) (hp : DutyLaw s) : DutyLaw t := by
  cases h with
  | reset => exact dutyLaw_reset rfl rfl
  | release => exact dutyLaw_reset rfl rfl
  | runs h =>
    cases h with
    | same => exact hp
    | does _ h =>
      obtain ⟨he, ho⟩ := does_dutyLeft h hp.entitled
      exact hp.settle he fun _ => ho
    | ticks _ h =>
      obtain ⟨he, ho⟩ := changes_dutyLeft h hp.entitled
      exact (hp.settle he fun _ => .inl ho).keepTick
    | holdoff =>
      obtain ⟨hl, -⟩ | ⟨-, hl, -⟩ | ⟨hs, he, hc⟩ := evaluateOnce_law true (s := stopHoldoff s) ⟨hp.lit, hp.heldCause⟩
      · exact hp.settle hl.entitled fun _ => .inr hl.offer
      · exact hp.settle hl.entitled fun _ => .inr hl.offer
      · refine hp.settle he fun h => ?_
        have hlamp : (evaluateOnce true (stopHoldoff s)).lamp.state = s.lamp.state := congrArg DutySources.lamp h
        rw [hc] at hlamp
        exact absurd hlamp.symm (lampOn_ne_cooldown hs)
    | listen =>
      rcases listenEnds_cases s with h | ⟨-, -, h⟩ <;> rw [h]
      · exact hp.settle hp.entitled fun _ => .inl rfl
      · exact hp.settle (hp.entitled.congr (by simp) (by simp)) fun _ => .inl (by simp)
    | period =>
      rcases periodEnds_cases s with h | ⟨-, h⟩ <;> rw [h]
      · exact hp.settle hp.entitled fun _ => .inl rfl
      · exact hp.settle (hp.entitled.congr (by simp) (by simp)) fun _ => .inl (by simp)

/-! ## The Store -/

/-- What a command's operation leaves of the Store's law: with nothing in flight after the load, `s` had nothing to
write. -/
structure StoreLeft (s u : State) : Prop where
  once : u.store.list.Nodup
  reads : u.store.loadIndex ≤ Config.recordCount
  busy : Config.recordCount ≤ u.store.loadIndex → u.store.inFlight = none → s.store.list = []

theorem StoreLeft.congr {s u v : State} (h : StoreLeft s u) (hn : v.store.list.Nodup)
    (hf : v.store.inFlight = u.store.inFlight) (hi : v.store.loadIndex = u.store.loadIndex) : StoreLeft s v :=
  ⟨hn, by rw [hi]; exact h.reads, by rw [hi, hf]; exact h.busy⟩

theorem mark_list (r : RecordId) (s : State) :
    (mark r s).store.list = if r ∈ s.store.list then s.store.list else s.store.list ++ [r] := by
  unfold mark; split <;> rfl

theorem mark_list_nodup {r : RecordId} {s : State} (h : s.store.list.Nodup) : (mark r s).store.list.Nodup := by
  rw [mark_list]
  split
  · exact h
  · exact List.nodup_append.2 ⟨h, List.nodup_singleton r, by rintro a ha b hb rfl; simp_all⟩

theorem mark_list_nil {r : RecordId} {s : State} (h : (mark r s).store.list = []) : s.store.list = [] := by
  rw [mark_list] at h
  split at h
  · exact h
  · simp at h

/-- A release's mark of the wear record is all that cool-down does to the Store (R88). -/
theorem enterCooldown_list (s : State) :
    (enterCooldown s).store.list = if lampBurning s.lamp.state then (mark .wear s).store.list else s.store.list := by
  unfold enterCooldown
  dsimp only
  split
  · simp only [State.withLamp_store, extinction, mark_withWear, State.withWear_store]
  · rfl

theorem enterCooldown_list_kept {s : State} :
    (s.store.list.Nodup → (enterCooldown s).store.list.Nodup) ∧ ((enterCooldown s).store.list = [] → s.store.list = []) := by
  rw [enterCooldown_list]
  split
  · exact ⟨mark_list_nodup, mark_list_nil⟩
  · exact ⟨id, id⟩

theorem restExpired_list_kept {s : State} :
    (s.store.list.Nodup → (restExpired s).store.list.Nodup) ∧ ((restExpired s).store.list = [] → s.store.list = []) := by
  rcases restExpired_cases s with ⟨e, -⟩ | ⟨-, -, e⟩
  · rw [e]; exact ⟨id, id⟩
  · rw [e]; exact enterCooldown_list_kept

theorem signals_store {s u : State} (h : Signals s u) : u.store = s.store := by rw [h.rest]; rfl

/-- What an elementary change does to the Store: the list may grow by a mark, and the load may go on. -/
theorem Change.store {u v : State} (h : Change u v) :
    (u.store.list.Nodup → v.store.list.Nodup) ∧ (v.store.list = [] → u.store.list = []) ∧
      v.store.inFlight = u.store.inFlight ∧
      (v.store.loadIndex = u.store.loadIndex ∨ v.store.loadIndex < Config.recordCount) := by
  cases h with
  | sends => rw [signals_store (attemptSends_signals u)]; exact ⟨id, id, rfl, .inl rfl⟩
  | fails => rw [signals_store (attemptFails_signals u)]; exact ⟨id, id, rfl, .inl rfl⟩
  | fault c d =>
    have hk := enterCooldown_list_kept (s := Machine.latch c d u)
    rw [latch_store] at hk
    exact ⟨hk.1, hk.2, by rw [enterCooldown_store, latch_store], .inl (by rw [enterCooldown_store, latch_store])⟩
  | cool =>
    obtain ⟨hn, he⟩ := enterCooldown_list_kept (s := u)
    exact ⟨hn, he, by rw [enterCooldown_store], .inl (by rw [enterCooldown_store])⟩
  | charge r =>
    obtain ⟨hn, he⟩ := restExpired_list_kept (s := u.withWear { u.wear with record := r })
    exact ⟨hn, he, by rw [restExpired_store]; rfl, .inl (by rw [restExpired_store]; rfl)⟩
  | mark r => exact ⟨mark_list_nodup, mark_list_nil, by rw [mark_store], .inl (by rw [mark_store])⟩
  | storeAside x hl hf hi => exact ⟨by rw [State.withStore_store, hl]; exact id, by rw [State.withStore_store, hl]; exact id, hf, .inl hi⟩
  | advance x timer hi => exact ⟨id, id, rfl, .inr hi⟩
  | _ => exact ⟨by simp, by simp, by simp, .inl (by simp)⟩

theorem StoreLeft.change {s u v : State} (h : Change u v) (hp : StoreLeft s u) : StoreLeft s v := by
  obtain ⟨hn, -, hf, hi | hi⟩ := h.store
  · exact hp.congr (hn hp.once) hf hi
  · exact ⟨hn hp.once, Nat.le_of_lt hi, fun hle => absurd hi (Nat.not_lt.2 hle)⟩

theorem StoreLeft.duty {s u v : State} (h : DutyChange u v) (hp : StoreLeft s u) : StoreLeft s v := by
  obtain ⟨x, rfl | ⟨-, -, rfl⟩ | ⟨-, -, rfl⟩⟩ := dutyChange_cases h
  · exact hp.congr hp.once rfl rfl
  · exact hp.congr hp.once rfl rfl
  · exact hp.congr (enterCooldown_list_kept.1 hp.once) (by rw [State.withDuty_store, enterCooldown_store])
      (by rw [State.withDuty_store, enterCooldown_store])

/-- A write begun leaves nothing waiting while nothing is in flight (R178). -/
theorem beginWrite_busy {s : State} (hl : s.loaded = true) (hf : (beginWrite s).store.inFlight = none) :
    s.store.list = [] ∧ (beginWrite s).store.list = [] := by
  unfold beginWrite at hf ⊢
  split at hf
  · rw [if_pos hl] at hf
    cases hf
  · rename_i hno
    cases hlist : s.store.list with
    | nil => exact ⟨rfl, rfl⟩
    | cons r rest => exact absurd hlist (hno r rest hf)

theorem beginWrite_list_nodup {s : State} (h : s.store.list.Nodup) : (beginWrite s).store.list.Nodup := by
  unfold beginWrite
  split
  · rename_i r rest _ hlist
    split
    · rw [hlist] at h
      exact (List.nodup_cons.1 h).2
    · exact h
  · exact h

theorem beginWrite_loadIndex (s : State) : (beginWrite s).store.loadIndex = s.store.loadIndex := by
  rw [beginWrite_store]

/-- A chain that ends a load or a write keeps the list's marks, and is followed by the start of a write. -/
theorem memoryChanges_store {s w : State} (h : MemoryChanges s w) (hs : StoreLaw s.store) :
    w.store.list.Nodup ∧ w.store.loadIndex ≤ Config.recordCount ∧ (w.store.list = [] → s.store.list = []) := by
  refine memoryChanges_keep
    (P := fun x => x.store.list.Nodup ∧ x.store.loadIndex ≤ Config.recordCount ∧ (x.store.list = [] → s.store.list = []))
    (fun {u v} hc hx => ?_) (fun {u v} hc hx => ?_) h ⟨hs.once, hs.reads, id⟩
  · obtain ⟨hn, he, -, hi⟩ := hc.store
    exact ⟨hn hx.1, hi.elim (fun e => by rw [e]; exact hx.2.1) Nat.le_of_lt, fun e => hx.2.2 (he e)⟩
  · cases hc with
    | commit x hi =>
      have hlist : ∀ y : State, (startCooldownTimer (commitLoad y)).store.list = y.store.list ∧
          (startCooldownTimer (commitLoad y)).store.loadIndex = y.store.loadIndex := by
        intro y
        obtain ⟨l, e, -⟩ := startCooldownTimer_eq (commitLoad y)
        rw [e]
        exact ⟨rfl, rfl⟩
      obtain ⟨hl, hindex⟩ := hlist (u.withStore
        { u.store with staged := x, loadIndex := u.store.loadIndex + 1, readTimer := none })
      rw [hl, hindex]
      exact ⟨hx.1, Nat.le_of_eq hi, hx.2.2⟩
    | writeEnds => exact hx

theorem does_storeLeft {s u : State} (h : Does s u) (hp : StoreLaw s.store) : StoreLeft s u := by
  have hs : StoreLeft s s := ⟨hp.once, hp.reads, hp.busy⟩
  cases h with
  | plain h => exact changes_keep StoreLeft.change h hs
  | memory h =>
    obtain ⟨hn, hr, he⟩ := memoryChanges_store h hp
    refine ⟨beginWrite_list_nodup hn, by rwa [beginWrite_loadIndex], fun hi hf => he ?_⟩
    rw [beginWrite_loadIndex] at hi
    exact (beginWrite_busy ((loaded_iff _).2 hi) hf).1
  | evaluates h hd ha =>
    exact changes_keep StoreLeft.change ha.changes ((changes_keep StoreLeft.change h hs).duty (.evaluates hd))

theorem StoreLeft.settle {s u : State} (h : StoreLeft s u) : StoreLaw (settle s u).store := by
  have hd : StoreLeft s (dutyWatch s u) := by
    unfold dutyWatch
    split
    · exact h
    · exact h.duty (.evaluates .evaluate)
  have hc : StoreLeft s (changeWatch s (dutyWatch s u)) := hd.congr (by simpa using hd.once) (by simp) (by simp)
  unfold Machine.settle writeWatch
  dsimp only
  split
  · rename_i hsame
    exact ⟨hc.once, fun hi hf => hsame.trans (hc.busy hi hf), hc.reads⟩
  · refine ⟨beginWrite_list_nodup hc.once, fun hi hf => ?_, by rw [beginWrite_loadIndex]; exact hc.reads⟩
    rw [beginWrite_loadIndex] at hi
    exact (beginWrite_busy ((loaded_iff _).2 hi) hf).2

theorem StoreLaw.next {s t : State} (h : Next s t) (hp : StoreLaw s.store) : StoreLaw t.store := by
  have hs : StoreLeft s s := ⟨hp.once, hp.reads, hp.busy⟩
  cases h with
  | reset => exact ⟨.nil, fun _ _ => rfl, Nat.zero_le _⟩
  | release => exact ⟨.nil, fun _ _ => rfl, Nat.zero_le _⟩
  | runs h =>
    cases h with
    | same => exact hp
    | does _ h => exact (does_storeLeft h hp).settle
    | ticks _ h => exact (changes_keep StoreLeft.change h hs).settle
    | holdoff => exact (hs.duty .holdoff).settle
    | listen =>
      rcases listenEnds_cases s with h | ⟨-, -, h⟩ <;> rw [h]
      · exact hs.settle
      · exact (hs.congr (by simpa using hs.once) (by simp) (by simp)).settle
    | period =>
      rcases periodEnds_cases s with h | ⟨-, h⟩ <;> rw [h]
      · exact hs.settle
      · exact (hs.congr (by simpa using hs.once) (by simp) (by simp)).settle

/-- A step is an idle millisecond or what a command can do. -/
theorem step_next {s t : State} (h : step s = .next t) :
    (∃ x, Next { s with pending := x } t) ∨ t = idle s := by
  unfold step at h
  split at h
  · exact .inl ⟨_, exec_next h⟩
  · exact .inr (Host.Outcome.next.inj h).symm

/-- Settles O58: an evaluation restores the law of Shared Duty from any state whose lit lamp is on, and a write begun
leaves nothing to wait for. -/
theorem dutyAndStoreLawsAreKept : Obligations.DutyAndStoreLawsAreKept := by
  intro s t hstep
  rcases step_next hstep with ⟨x, h⟩ | rfl
  · exact ⟨fun hd => DutyLaw.next h ⟨hd.offer, hd.schedule, hd.lit, hd.heldCause⟩,
      fun hs => StoreLaw.next (s := { s with pending := x }) h hs⟩
  · unfold idle
    split
    · exact ⟨fun hd => ⟨hd.offer, hd.schedule, hd.lit, hd.heldCause⟩, id⟩
    · exact ⟨id, id⟩

end Sys2Proof.Machine
end

section
/-! SUPPORT. The change watch keeps the last offered image equal to the beacon (R24, R25), and every law holds of the reset
state. -/

namespace Sys2Proof.Machine

/-! ## What the beacon's watch needs of a command's operation -/

/-- A command that leaves the station ACTIVE found it so, and left the image, unless it offered the beacon. -/
structure ImageLeft (s u : State) : Prop where
  active : u.line.state = .active → s.line.state = .active
  image : u.peers.image = s.peers.image

theorem ImageLeft.refl (s : State) : ImageLeft s s := ⟨id, rfl⟩

theorem ImageLeft.trans {s u v : State} (h : ImageLeft s u) (h' : ImageLeft u v) : ImageLeft s v :=
  ⟨fun ha => h.active (h'.active ha), h'.image.trans h.image⟩

theorem Signals.imageLeft {s u : State} (h : Signals s u) : ImageLeft s u :=
  ⟨fun ha => h.state ▸ ha, by rw [h.rest]; rfl⟩

theorem Change.imageLeft {u v : State} (h : Change u v) : ImageLeft u v := by
  cases h with
  | offer f m => exact (offerMarked_signals f m u).imageLeft
  | latch c d => exact ⟨fun ha => (latch_line_kept c d u).1 ▸ ha, by simp⟩
  | fault c d => exact ⟨fun ha => (latch_line_kept c d u).1 ▸ (by simpa using ha), by simp⟩
  | clear c => exact ⟨fun ha => (clearCondition_line_kept c u).1 ▸ ha, by simp⟩
  | clash =>
    unfold enterClash
    split
    · exact .refl u
    · exact ⟨fun ha => (by cases ha), rfl⟩
  | sends => exact (attemptSends_signals u).imageLeft
  | fails => exact (attemptFails_signals u).imageLeft
  | _ => exact ⟨by simp, by simp⟩

@[simp] theorem commitLoad_peers (s : State) : (commitLoad s).peers = s.peers := rfl

@[simp] theorem startCooldownTimer_peers (s : State) : (startCooldownTimer s).peers = s.peers := by
  obtain ⟨x, h, -⟩ := startCooldownTimer_eq s
  rw [h]
  rfl

theorem MemoryChange.imageLeft {u v : State} (h : MemoryChange u v) : ImageLeft u v := by
  cases h with
  | commit => exact ⟨by simp, by simp⟩
  | writeEnds => exact ⟨id, rfl⟩

theorem DutyChange.imageLeft {u v : State} (h : DutyChange u v) : ImageLeft u v := by
  obtain ⟨x, rfl | ⟨-, -, rfl⟩ | ⟨-, -, rfl⟩⟩ := dutyChange_cases h <;> exact ⟨by simp, by simp⟩

theorem Changes.imageLeft {s u : State} (h : Changes s u) : ImageLeft s u :=
  changes_keep (P := ImageLeft s) (fun hc hp => hp.trans hc.imageLeft) h (.refl s)

theorem Does.imageLeft {s u : State} (h : Does s u) : ImageLeft s u := by
  cases h with
  | plain h => exact h.imageLeft
  | memory h =>
    have hw := memoryChanges_keep (P := ImageLeft s) (fun hc hp => hp.trans hc.imageLeft)
      (fun hc hp => hp.trans hc.imageLeft) h (.refl s)
    exact hw.trans ⟨by simp, by simp⟩
  | evaluates h hd ha => exact (h.imageLeft.trans (DutyChange.evaluates hd).imageLeft).trans ha.signals.imageLeft

/-! ## What an offered beacon leaves in the queue -/

/-- The payload is the held update, or that of the queue's BEACON, or the queue is full and holds none (R11, R12). -/
def Offered (p : List Byte) (l : Line) : Prop :=
  l.heldUpdate = some p ∨ (∃ q ∈ l.queue, q.isBeacon = true ∧ q.frame.payload = p) ∨
    (8 ≤ l.queue.length ∧ ∀ q ∈ l.queue, q.isBeacon = false)

theorem offerBeacon_offered {s : State} (h : s.line.state = .active) (p : List Byte) :
    Offered p (offerBeacon p s).line := by
  unfold offerBeacon
  rw [if_pos h]
  split
  · rename_i i hi
    split
    · exact .inl rfl
    · obtain ⟨q, hq, hk⟩ := beaconPlace_some hi
      refine .inr (.inl ⟨rewritten p q, ?_, by simp [rewritten, QueuedFrame.isBeacon, hk], rfl⟩)
      refine List.mem_of_getElem? (i := i) ?_
      simp [hq]
  · rename_i hn
    split
    · exact .inr (.inl ⟨_, List.mem_append_right _ (List.mem_singleton_self _), rfl, rfl⟩)
    · rename_i hr
      refine .inr (.inr ⟨?_, beaconPlace_none hn⟩)
      exact Nat.le_of_not_lt fun h => hr ((queueHasRoom_iff s).2 h)

/-! ## The watch -/

/-- From a state whose image, where it is ACTIVE, is the beacon before the command, the watch leaves the image current,
and a changed beacon offered. -/
theorem settle_image {s u : State} (h : u.line.state = .active → u.peers.image = some s.beaconNow) :
    ImageLaw (settle s u) ∧ ((settle s u).line.state = .active → (settle s u).beaconNow ≠ s.beaconNow →
      Offered (settle s u).beaconNow (settle s u).line) := by
  have hbeacon := settle_beaconNow s u
  have hline : (settle s u).line = (changeWatch s (dutyWatch s u)).line := by simp [settle]
  have hpeers : (settle s u).peers = (changeWatch s (dutyWatch s u)).peers := by simp [settle]
  have hv : (dutyWatch s u).line.state = .active → (dutyWatch s u).peers.image = some s.beaconNow := by
    simpa using h
  unfold ImageLaw
  rw [hbeacon, hline, hpeers]
  generalize dutyWatch s u = v at hv
  unfold changeWatch
  split
  · rename_i hc
    refine ⟨fun _ => by simp [offerOwnBeacon], fun _ _ => ?_⟩
    exact offerBeacon_offered (s := v.withPeers { v.peers with image := some v.beaconNow }) hc.1 _
  · rename_i hc
    refine ⟨fun ha => ?_, fun ha hb => ?_⟩
    · by_cases hb : v.beaconNow = s.beaconNow
      · rw [hb]; exact hv ha
      · by_contra hi
        exact hc ⟨ha, hb, hi⟩
    · refine absurd ⟨ha, hb, ?_⟩ hc
      rw [hv ha]
      exact fun e => hb (Option.some.inj e).symm

theorem keepTick_beaconNow (s : State) : (keepTick s).beaconNow = s.beaconNow := rfl

/-- What the law says of a step. -/
def ImageKept (s t : State) : Prop :=
  ImageLaw t ∧ (s.line.state = .active → t.line.state = .active → t.beaconNow ≠ s.beaconNow → Offered t.beaconNow t.line)

theorem ImageKept.keepTick {s v : State} (h : ImageKept s v) : ImageKept s (keepTick v) := by
  unfold ImageKept ImageLaw
  rw [keepTick_beaconNow]
  exact h

theorem imageKept_of_settle {s u : State} (h : u.line.state = .active → u.peers.image = some s.beaconNow) :
    ImageKept s (settle s u) := (settle_image h).imp_right fun x _ => x

theorem ImageLeft.kept {s u : State} (h : ImageLeft s u) (hs : ImageLaw s) : ImageKept s (settle s u) :=
  imageKept_of_settle fun ha => h.image.trans (hs (h.active ha))

theorem offerOwnBeacon_image (s : State) : (offerOwnBeacon s).peers.image = some s.beaconNow := by simp [offerOwnBeacon]

theorem Next.imageKept {s t : State} (h : Next s t) (hs : ImageLaw s) : ImageKept s t := by
  cases h with
  | reset => exact ⟨fun ha => (by cases ha), fun _ ha => (by cases ha)⟩
  | release => exact ⟨fun ha => (by cases ha), fun _ ha => (by cases ha)⟩
  | runs h =>
    cases h with
    | same => exact ⟨hs, fun _ _ hb => absurd rfl hb⟩
    | does _ h => exact h.imageLeft.kept hs
    | ticks _ h => exact (h.imageLeft.kept hs).keepTick
    | holdoff => exact DutyChange.holdoff.imageLeft.kept hs
    | listen =>
      rcases listenEnds_cases s with h | ⟨-, -, h⟩ <;> rw [h]
      · exact (ImageLeft.refl s).kept hs
      · refine imageKept_of_settle fun _ => (offerOwnBeacon_image _).trans (congrArg some ?_)
        exact beaconNow_congr rfl rfl rfl rfl rfl rfl rfl rfl
    | period =>
      rcases periodEnds_cases s with h | ⟨-, h⟩ <;> rw [h]
      · exact (ImageLeft.refl s).kept hs
      · refine imageKept_of_settle fun _ => (offerOwnBeacon_image _).trans (congrArg some ?_)
        exact beaconNow_congr rfl rfl rfl rfl rfl rfl rfl rfl

/-- Settles O60: no operation touches the image but to offer the beacon, and the watch compares at the end of the
command. -/
theorem beaconImageIsCurrent : Obligations.BeaconImageIsCurrent := by
  intro s t hs hstep
  rcases step_next hstep with ⟨x, h⟩ | rfl
  · have hwaiting : ImageLaw { s with pending := x } := fun ha => hs ha
    exact Next.imageKept (s := { s with pending := x }) h hwaiting
  · have hsame : (idle s).beaconNow = s.beaconNow := by unfold idle; split <;> rfl
    refine ⟨?_, fun _ _ hb => absurd hsame hb⟩
    unfold idle
    split <;> exact hs

/-- Settles O59: the reset state is empty, at rest and in LISTEN. -/
theorem lawsHoldAtReset : Obligations.LawsHoldAtReset := by
  have hline : LineOk State.reset := lineOk_quiet rfl rfl rfl rfl rfl rfl
  refine ⟨hline.1, hline.2, ?_, lampLaw_reset rfl rfl rfl rfl, dutyLaw_reset rfl rfl,
    ⟨.nil, fun _ _ => rfl, Nat.zero_le _⟩, nofun⟩
  exact (tableLaw_iff _).2 ⟨.empty rfl rfl rfl keystoneLaw_zero rfl, stackLaw_nil⟩

end Sys2Proof.Machine
end

section
/-! The statements about steps, resets, the lockout check and the current keystone. -/

namespace Sys2Proof.Machine

/-- Settles O1: the definition of a step on a queue that is not empty. -/
theorem stepRunsTheFrontCommand : Obligations.StepRunsTheFrontCommand := by
  intro c rest s h
  simp [step, h]

/-- A part held in reset acts on no command but a reset (R184). -/
theorem command_held {f : State → State} {s : State} (h : s.released = false) : command f s = .next s := by
  simp [command, h]

theorem exec_held {c : Instr} {s : State} (h : s.released = false) (h1 : c ≠ .powerOn) (h2 : c ≠ .resetPin)
    (h3 : ∀ a r, c ≠ .resetRelease a r) : exec c s = .next s := by
  cases ho : orderCarried c with
  | some x =>
    rw [exec_order (kind := x.1) (o := x.2) ho]
    exact command_held h
  | none =>
    cases c
    case powerOn => exact absurd rfl h1
    case resetPin => exact absurd rfl h2
    case resetRelease a r => exact absurd rfl (h3 a r)
    case restartReset =>
      show Host.Outcome.next _ = _
      simp [h]
    case oneSecondTick d =>
      show Host.Outcome.next _ = _
      simp [h]
    all_goals exact command_held h

theorem step_of_empty {s : State} (h : s.pending = []) : step s = .next (idle s) := by
  simp [step, h]

/-- Settles O2: an empty queue lets a millisecond pass, and before the release only a reset acts. -/
theorem idleStepsAndHeldReset : Obligations.IdleStepsAndHeldReset := by
  exact ⟨fun s h => step_of_empty h, fun c s h h1 h2 h3 => exec_held h h1 h2 h3⟩

theorem exec_restartReset (s : State) :
    exec .restartReset s = .next (if s.released && s.restartReady then enterReset s else s) := rfl

theorem exec_resetRelease (a : BitVec 5) (r : Bool) (s : State) :
    exec (.resetRelease a r) s = .next (if s.released then s else releaseReset a r s) := rfl

theorem restartReady_iff (s : State) : s.restartReady = true ↔
    s.store.restartPending = true ∧ (∀ q ∈ s.line.queue, q.forRestart = false) ∧ s.store.list = [] ∧
      s.store.inFlight = none := by
  simp [State.restartReady, and_assoc]

/-- Settles O3: the resets put the part into its reset state, a pending restart once nothing holds it back. -/
theorem resetsAndTheirRelease : Obligations.ResetsAndTheirRelease := by
  refine ⟨fun s => ⟨rfl, rfl⟩, fun s hr hp hq hl hf => ?_, fun s h => ?_, fun a r s hr => ?_, fun a r s hr => ?_⟩
  · have hready : s.restartReady = true := (restartReady_iff s).2 ⟨hp, hq, hl, hf⟩
    rw [exec_restartReset, hr, hready]
    rfl
  · have hnot : ¬ s.restartReady = true := by
      rw [restartReady_iff]
      rintro ⟨hp, hq, hl, hf⟩
      rcases h with h | ⟨q, hm, h⟩ | h | h
      · rw [hp] at h; cases h
      · rw [hq q hm] at h; cases h
      · exact h hl
      · exact h hf
    rw [exec_restartReset, if_neg (by simp [hnot])]
  · rw [exec_resetRelease, hr]
    rfl
  · rw [exec_resetRelease, if_pos hr]

/-- Settles O4, by evaluation of the reset state. -/
theorem resetIsTheRulesReset : Obligations.ResetIsTheRulesReset := by
  unfold Obligations.ResetIsTheRulesReset
  decide

/-- Settles O18: the authority is judged first, then the level. -/
theorem lockoutJudgesInTwoSteps : Obligations.LockoutJudgesInTwoSteps := by
  intro authority minimum lockable s
  refine ⟨fun h => ?_, fun h hl hlevel => ?_, fun h hl => ?_, fun kind => ?_⟩
  · simp [State.lockoutCheck, h]
  · simp [State.lockoutCheck, Nat.not_lt.2 h, hl, State.level, hlevel]
  · rw [State.lockoutCheck, if_neg (Nat.not_lt.2 h), if_neg]
    rcases hl with rfl | hl
    · simp
    · simp only [Bool.and_eq_true, decide_eq_true_eq, not_and, Nat.not_le]
      exact fun _ => hl
  · cases kind <;> exact ⟨rfl, by decide⟩

/-! ## The current keystone -/

/-- The corner set goes into flight when the handoff is IDLE. -/
theorem produceCorners_idle {s : State} (h : s.geometry.inFlight = none) :
    produceCorners s =
      sendCorners (cornersOf s.store.settings.rasterWidth s.store.settings.rasterHeight s.geometry.current) s := by
  simp [produceCorners, State.handoffBusy, h]

theorem produceCorners_busy {s : State} (h : s.geometry.inFlight ≠ none) :
    produceCorners s = s.withGeometry { s.geometry with
      pendingSet :=
        some (cornersOf s.store.settings.rasterWidth s.store.settings.rasterHeight s.geometry.current) } := by
  simp [produceCorners, State.handoffBusy, Option.isSome_iff_ne_none.2 h]

/-- Settles O25: the corner set goes into flight or waits, by the handoff's state. -/
theorem keystoneBecomesCurrent : Obligations.KeystoneBecomesCurrent := by
  intro k s corners
  refine ⟨fun h => ?_, fun h => ?_⟩
  · rw [makeCurrent, produceCorners_idle (by exact h)]
    rfl
  · rw [makeCurrent, produceCorners_busy (by exact h)]
    rfl

end Sys2Proof.Machine
end

section
/-! The statements about the orders to the lamp, the picture and the keystone (R60 to R68, R107, R108, R114 to R124). -/

namespace Sys2Proof.Machine

/-- An order as its owner takes it. -/
def orderAsTaken (o : OrderFrame) : Taken :=
  { args := o.args, authority := o.authority.toNat, origin := some o.source }

/-- An order that reaches its owner has the owner's effect and is answered with the owner's result. -/
theorem effects_of_owner (kind : OrderKind) {i : Instr} {o : OrderFrame} {s u : State} {r : Result}
    (hi : orderCarried i = some (kind, o)) (h : Reaches kind o s) (hs : kind ≠ .select) (hr : kind ≠ .restart)
    (hx : ownerTakes kind (orderAsTaken o) s = plain (u, r)) : Effects i s (answer (s.direct o) false kind.code o r [] u) :=
  effects_of_order hi h (orderTaken_plain (x := (u, r)) hs hr hx)

/-! ## LIGHT and REST -/

theorem takeLight_dark {cause : LitCause} {s : State} (h : s.lamp.state = .dark) (hb : s.barred = false) :
    takeLight cause s = (clearDeclined (enterPreheat cause s), .started) := by simp [takeLight, h, hb]

theorem takeLight_cooldown {cause : LitCause} {s : State} (h : s.lamp.state = .cooldown) (hb : s.barred = false) :
    takeLight cause s = (clearDeclined (s.withLamp { s.lamp with heldStrike := some cause }), .held) := by
  simp [takeLight, h, hb]

theorem takeLight_barred {cause : LitCause} {s : State} (h : s.lamp.state = .dark ∨ s.lamp.state = .cooldown)
    (hb : s.barred = true) : takeLight cause s = (s, .state) := by
  rcases h with h | h <;> simp [takeLight, h, hb]

theorem takeLight_on {cause : LitCause} {s : State} (h : lampOn s.lamp.state = true) :
    takeLight cause s =
      (clearDeclined (s.withLamp { s.lamp with cause := if s.lamp.cause = .schedule then cause else s.lamp.cause }),
        .done) := by
  unfold takeLight
  split
  case h_1 hd => simp [hd, lampOn] at h
  case h_2 hc => simp [hc, lampOn] at h
  case h_3 => split <;> rfl

theorem takeRest_dark {s : State} (h : s.lamp.state = .dark) : takeRest s = (s, .done) := by simp [takeRest, h]

theorem takeRest_cooldown {s : State} (h : s.lamp.state = .cooldown) :
    takeRest s = (s.withLamp { s.lamp with heldStrike := none }, .done) := by simp [takeRest, h]

theorem takeRest_on {s : State} (h : lampOn s.lamp.state = true) :
    takeRest s =
      ((enterCooldown s).withDuty { s.duty with declined := s.duty.declined || s.lamp.cause == .schedule }, .done) := by
  unfold takeRest
  split
  case h_1 hd => simp [hd, lampOn] at h
  case h_2 hc => simp [hc, lampOn] at h
  case h_3 =>
    have hd : (enterCooldown s).duty = s.duty := by simp
    by_cases hc : s.lamp.cause = .schedule
    · simp [hc]
    · simp only [hc, if_false, beq_false_of_ne hc, Bool.or_false]
      rw [← hd]
      rfl

/-- Settles O19, by lamp state and bar. -/
theorem lightActsByLampState : Obligations.LightActsByLampState := by
  intro o s h cleared
  refine ⟨fun hs hb => ?_, fun hs hb => ?_, fun hs => ?_, fun hs hb => ?_⟩
  · exact effects_of_owner .light rfl h nofun nofun (congrArg plain (takeLight_dark hs hb))
  · exact effects_of_owner .light rfl h nofun nofun (congrArg plain (takeLight_cooldown hs hb))
  · exact effects_of_owner .light rfl h nofun nofun (congrArg plain (takeLight_on hs))
  · exact effects_of_owner .light rfl h nofun nofun (congrArg plain (takeLight_barred hs hb))

theorem enterCooldown_unlit {s : State} (h : lampBurning s.lamp.state = false) :
    enterCooldown s = s.withLamp { s.lamp with
      state := .cooldown, timer := some (s.now + s.store.settings.cooldown * 1000), inGap := false, attempts := 0,
      heldStrike := none, cause := .noCause } := by
  simp [enterCooldown, h]

theorem enterCooldown_burning {s : State} (h : lampBurning s.lamp.state = true) :
    enterCooldown s = (extinction s).withLamp { s.lamp with
      state := .cooldown, timer := some (s.now + s.store.settings.cooldown * 1000), inGap := false, attempts := 0,
      heldStrike := none, cause := .noCause } := by
  simp [enterCooldown, h]

theorem mark_eq (r : RecordId) (s : State) :
    mark r s = s.withStore { s.store with
      list := if r ∈ s.store.list then s.store.list else s.store.list ++ [r] } := by
  unfold mark
  split <;> rfl

/-- Settles O20, by lamp state. -/
theorem restEndsInCooldown : Obligations.RestEndsInCooldown := by
  refine ⟨fun o s h => ⟨fun hs => ?_, fun hs => ?_, fun hs => ?_⟩, fun s => ⟨fun hs => ?_, fun hs => ?_⟩⟩
  · exact effects_of_owner .rest rfl h nofun nofun (congrArg plain (takeRest_on hs))
  · exact effects_of_owner .rest rfl h nofun nofun (congrArg plain (takeRest_cooldown hs))
  · exact effects_of_owner .rest rfl h nofun nofun (congrArg plain (takeRest_dark hs))
  · exact enterCooldown_unlit (by rcases hs with hs | hs <;> rw [hs] <;> rfl)
  · rw [enterCooldown_burning (by rcases hs with hs | hs <;> rw [hs] <;> rfl), extinction, mark_eq]
    rfl

/-! ## SET MODE, SHOW and BLANK -/

theorem hot_iff (s : State) : s.hot = true ↔ ∃ t, s.lamp.housing = some t ∧ 80 ≤ t := by
  unfold State.hot Config.hotAt
  cases s.lamp.housing <;> simp

theorem served_limited {s : State} (h : s.lamp.requested = .full) (hl : s.hot = true ∨ s.life ≠ .noLife) :
    s.served = .normal := if_pos ⟨h, hl⟩

theorem served_requested {s : State} (h : s.lamp.requested ≠ .full ∨ (s.hot = false ∧ s.life = .noLife)) :
    s.served = s.lamp.requested := by
  refine if_neg ?_
  rintro ⟨hf, hl⟩
  rcases h with h | ⟨hh, hn⟩
  · exact h hf
  · rcases hl with hl | hl
    · rw [hh] at hl
      cases hl
    · exact hl hn

/-- The served mode is the one requested unless FULL is limited (R68). -/
theorem served_requestMode (mode : PowerMode) (s : State) :
    (requestMode mode s).served = mode ↔ ¬ (mode = .full ∧ (s.hot = true ∨ s.life ≠ .noLife)) := by
  have hlife : (requestMode mode s).life = s.life := rfl
  have hhot : (requestMode mode s).hot = s.hot := rfl
  have hreq : (requestMode mode s).lamp.requested = mode := rfl
  rw [State.served, hlife, hhot, hreq]
  split
  · rename_i hc
    simp [hc]
  · rename_i hc
    simp [hc]

theorem takeSetMode_eq (mode : PowerMode) (s : State) :
    takeSetMode mode s =
      (requestMode mode s, if mode = .full ∧ (s.hot = true ∨ s.life ≠ .noLife) then .adjusted else .done) := by
  simp only [takeSetMode, served_requestMode, ite_not]

theorem pictureShown_iff (s : State) :
    s.pictureShown = true ↔ s.lamp.state = .lit ∧ s.router.selection = .settled ∧ s.router.wanted = true := by
  simp [State.pictureShown, and_assoc]

theorem takeShow_eq (s : State) :
    takeShow s = (s.withRouter { s.router with wanted := true },
      if s.lamp.state = .lit ∧ s.router.selection = .settled then .done else .held) := by
  simp [takeShow, pictureShown_iff]

theorem switcherOutput_show (s : State) : s.switcherOutput = .showPicture ↔ s.pictureShown = true := by
  unfold State.switcherOutput
  split <;> simp_all

theorem modeOfCode_byteOf (mode : PowerMode) : modeOfCode (byteOf (modeCode mode)).toNat = some mode := by
  cases mode <;> rfl

theorem ownerTakes_setMode {t : Taken} {mode : PowerMode} {s : State} (h : t.args = [byteOf (modeCode mode)]) :
    ownerTakes .setMode t s = plain (takeSetMode mode s) := by
  simp only [ownerTakes, h, modeOfCode_byteOf]

/-- Settles O21. -/
theorem modeAndPictureOrders : Obligations.ModeAndPictureOrders := by
  refine ⟨fun o mode s h ha => ?_, fun o s h => ?_, fun o s h => ?_, fun s => ⟨hot_iff s, served_limited,
    served_requested, (switcherOutput_show s).trans (pictureShown_iff s)⟩⟩
  · exact effects_of_owner .setMode rfl h nofun nofun ((ownerTakes_setMode ha).trans (congrArg plain (takeSetMode_eq mode s)))
  · exact effects_of_owner .showPicture rfl h nofun nofun (congrArg plain (takeShow_eq s))
  · exact effects_of_owner .blank rfl h nofun nofun rfl

end Sys2Proof.Machine
end

section
/-! The statements about the orders to the Geometry Unit (R114 to R124). -/

namespace Sys2Proof.Machine

/-! ## Limiting a value and a pair -/

theorem limited_eq (m : Nat) (x : Int) : limited m x = max (-(m : Int)) (min m x) := by
  unfold limited
  split
  · omega
  · split <;> omega

theorem limited_natAbs (m : Nat) (x : Int) : (limited m x).natAbs = min m x.natAbs := by
  rw [limited_eq]
  omega

theorem limited_of_le {m : Nat} {x : Int} (h : x.natAbs ≤ m) : limited m x = x := by
  rw [limited_eq]
  omega

theorem limited_limited (m n : Nat) (x : Int) : limited m (limited n x) = limited (min n m) x := by
  simp only [limited_eq]
  omega

/-- The limit the range and the combined rule leave kh beside a kv (R114). -/
def horizontalBound (kv : Int) : Nat := min 30 ((120 - 3 * kv.natAbs) / 4)

/-- The limit the range and the combined rule leave kv beside a kh (R114). -/
def verticalBound (kh : Int) : Nat := min 40 ((120 - 4 * kh.natAbs) / 3)

theorem clampHorizontal_eq (k : Keystone) :
    clampHorizontal k = { k with kh := limited (horizontalBound k.kv) k.kh } := by
  unfold clampHorizontal horizontalBound
  dsimp only
  split
  · rw [limited_limited]
  · rename_i h
    rw [← limited_limited, limited_of_le (x := limited 30 k.kh) (by omega)]

theorem clampVertical_eq {k : Keystone} : clampVertical k = { k with kv := limited (verticalBound k.kh) k.kv } := by
  unfold clampVertical verticalBound
  dsimp only
  split
  · rw [limited_limited]
  · rename_i h
    rw [← limited_limited, limited_of_le (x := limited 40 k.kv) (by omega)]

/-- The pair's clamp is the vertical range's, then the horizontal one's beside it. -/
theorem clampPair_eq (k : Keystone) :
    clampPair k = { kv := limited 40 k.kv, kh := limited (horizontalBound (limited 40 k.kv)) k.kh } := by
  have h : clampPair k = clampHorizontal { k with kv := limited 40 k.kv } := by
    unfold clampPair clampHorizontal
    dsimp only
  rw [h, clampHorizontal_eq]

theorem clampPair_eq_self_iff (k : Keystone) : clampPair k = k ↔ k.ok = true := by
  refine ⟨fun h => h ▸ clampPair_ok k, fun h => ?_⟩
  rw [keystone_ok_iff] at h
  obtain ⟨hv, hh, hsum⟩ := h
  rw [clampPair_eq, limited_of_le hv, limited_of_le (x := k.kh) (by unfold horizontalBound; omega)]

theorem ownerTakes_setKeystone {t : Taken} {kv kh : Byte} (s : State) (h : t.args = [kv, kh]) :
    ownerTakes .setKeystone t s =
      plain (makeCurrent (clampPair (keystoneOf kv kh)) s,
        if (keystoneOf kv kh).ok then .done else .adjusted) := by
  simp only [ownerTakes, h, takeSetKeystone, clampPair_eq_self_iff]

/-- Settles O24. -/
theorem setKeystoneClampsThePair : Obligations.SetKeystoneClampsThePair := by
  refine ⟨fun k => ⟨clampPair_ok k, clampPair_eq_self_iff k, ?_⟩, fun o kv kh s h ha => ?_⟩
  · rw [clampPair_eq]
    refine ⟨limited_eq 40 k.kv, ?_, fun h => ?_, fun h => ?_⟩
    · dsimp only
      rw [limited_natAbs, horizontalBound]
      omega
    · dsimp only
      rw [limited_eq]
      omega
    · dsimp only
      rw [limited_eq]
      omega
  · exact effects_of_owner .setKeystone rfl h nofun nofun (ownerTakes_setKeystone s ha)

/-! ## Nudges -/

theorem ownerTakes_nudgeVertical {t : Taken} {step : Byte} (s : State) (h : t.args = [0, step]) :
    ownerTakes .nudgeKeystone t s = plain (nudgeVertical step.toInt s) := by
  simp [ownerTakes, h]

theorem ownerTakes_nudgeHorizontal {t : Taken} {step : Byte} (s : State) (h : t.args = [1, step]) :
    ownerTakes .nudgeKeystone t s = plain (nudgeHorizontal step.toInt s) := by
  simp [ownerTakes, h]

theorem nudgeVertical_eq (step : Int) (s : State) :
    nudgeVertical step s =
      (let new := limited (verticalBound s.geometry.current.kh) (s.geometry.current.kv + step)
       (makeCurrent { kv := new, kh := s.geometry.current.kh } s,
        if new = s.geometry.current.kv + step then .done else .adjusted)) := by
  simp [nudgeVertical, clampVertical_eq]

theorem nudgeHorizontal_eq (step : Int) (s : State) :
    nudgeHorizontal step s =
      (let new := limited (horizontalBound s.geometry.current.kv) (s.geometry.current.kh + step)
       (makeCurrent { kv := s.geometry.current.kv, kh := new } s,
        if new = s.geometry.current.kh + step then .done else .adjusted)) := by
  simp [nudgeHorizontal, clampHorizontal_eq]

/-- Settles O26: the axis is limited to what the other leaves it. -/
theorem nudgeMovesOneAxis : Obligations.NudgeMovesOneAxis := by
  intro o step s h hok old
  refine ⟨fun ha => ?_, fun ha => ?_⟩
  · have hn := nudgeVertical_eq step.toInt s
    rw [limited_eq] at hn
    have hb : ((verticalBound s.geometry.current.kh : Nat) : Int) =
        min 40 (((120 - 4 * s.geometry.current.kh.natAbs) / 3 : Nat) : Int) := by
      unfold verticalBound
      omega
    rw [hb] at hn
    exact effects_of_owner .nudgeKeystone rfl h nofun nofun
      ((ownerTakes_nudgeVertical s ha).trans (congrArg plain hn))
  · have hn := nudgeHorizontal_eq step.toInt s
    rw [limited_eq] at hn
    have hb : ((horizontalBound s.geometry.current.kv : Nat) : Int) =
        min 30 (((120 - 3 * s.geometry.current.kv.natAbs) / 4 : Nat) : Int) := by
      unfold horizontalBound
      omega
    rw [hb] at hn
    exact effects_of_owner .nudgeKeystone rfl h nofun nofun
      ((ownerTakes_nudgeHorizontal s ha).trans (congrArg plain hn))

/-! ## Presets -/

theorem byteOf_toNat {n : Nat} (h : n < 256) : (byteOf n).toNat = n := by
  rw [byteOf, BitVec.toNat_ofNat, Nat.mod_eq_of_lt h]

/-- A position read through the table's list is the position itself. -/
theorem toList_getD_fin {α : Type} {n : Nat} (v : Vector (Option α) n) (i : Fin n) : v.toList.getD i none = v[i] := by
  rw [List.getD_eq_getElem?_getD, List.getElem?_eq_getElem (by simp)]
  rfl

theorem setIfInBounds_fin {α : Type} {n : Nat} (v : Vector α n) (i : Fin n) (x : α) :
    v.setIfInBounds i x = v.set i x := by
  apply Vector.ext
  intro j hj
  simp [Vector.getElem_set, Vector.getElem_setIfInBounds]

theorem takeRecallPreset_some {slot : Fin 4} {k : Keystone} {s : State} (h : s.geometry.presets[slot] = some k) :
    takeRecallPreset slot s = (makeCurrent k s, .done) := by
  rw [takeRecallPreset, Geometry.preset, toList_getD_fin, h]

theorem takeRecallPreset_none {slot : Fin 4} {s : State} (h : s.geometry.presets[slot] = none) :
    takeRecallPreset slot s = (s, .state) := by
  rw [takeRecallPreset, Geometry.preset, toList_getD_fin, h]

theorem ownerTakes_storePreset {t : Taken} {slot : Fin 4} (s : State) (h : t.args = [byteOf slot]) :
    ownerTakes .storePreset t s = plain (takeStorePreset slot s) := by
  simp only [ownerTakes, h, byteOf_toNat (show slot.val < 256 by omega)]

theorem ownerTakes_recallPreset {t : Taken} {slot : Fin 4} (s : State) (h : t.args = [byteOf slot]) :
    ownerTakes .recallPreset t s = plain (takeRecallPreset slot s) := by
  simp only [ownerTakes, h, byteOf_toNat (show slot.val < 256 by omega)]

theorem takeStorePreset_eq (slot : Fin 4) (s : State) :
    takeStorePreset slot s =
      (mark .geometry
        (s.withGeometry { s.geometry with presets := s.geometry.presets.set slot (some s.geometry.current) }),
        .done) := by
  rw [takeStorePreset, setIfInBounds_fin]

/-- Settles O27. -/
theorem presetsAreStoredAndRecalled : Obligations.PresetsAreStoredAndRecalled := by
  refine ⟨fun o slot s h ha => ?_, fun o slot s h ha => ⟨fun k hk => ?_, fun hn => ?_⟩⟩
  · exact effects_of_owner .storePreset rfl h nofun nofun
      ((ownerTakes_storePreset s ha).trans (congrArg plain (takeStorePreset_eq slot s)))
  · exact effects_of_owner .recallPreset rfl h nofun nofun
      ((ownerTakes_recallPreset s ha).trans (congrArg plain (takeRecallPreset_some hk)))
  · exact effects_of_owner .recallPreset rfl h nofun nofun
      ((ownerTakes_recallPreset s ha).trans (congrArg plain (takeRecallPreset_none hn)))

/-! ## Corners -/

/-- An inset of a value within its range takes at most a tenth of the raster. -/
theorem inset_le {size value range : Nat} (h : value ≤ range) : size * value / (10 * range) ≤ size / 10 := by
  rcases Nat.eq_zero_or_pos range with rfl | hr
  · simp
  · calc size * value / (10 * range) ≤ size * range / (10 * range) :=
          Nat.div_le_div_right (Nat.mul_le_mul_left _ h)
      _ = size / 10 := Nat.mul_div_mul_right _ _ hr

/-- What insets of at most a tenth on each side retain, per mille. -/
theorem retained_bounds {size inset : Nat} (hs : 0 < size) (h : inset ≤ size / 10) :
    800 ≤ 1000 * (size - 2 * inset) / size ∧ 1000 * (size - 2 * inset) / size ≤ 1000 := by
  refine ⟨?_, ?_⟩
  · rw [Nat.le_div_iff_mul_le hs]
    omega
  · exact Nat.div_le_of_le_mul (by rw [Nat.mul_comm size]; omega)

/-- Settles O28. -/
theorem cornersLieInsideTheRaster : Obligations.CornersLieInsideTheRaster := by
  intro k w h
  have hv : (max k.kv 0).toNat = k.kv.toNat := by omega
  have hv' : (max (-k.kv) 0).toNat = (-k.kv).toNat := by omega
  have hh : (max k.kh 0).toNat = k.kh.toNat := by omega
  have hh' : (max (-k.kh) 0).toNat = (-k.kh).toNat := by omega
  rw [hv, hv', hh, hh']
  refine ⟨rfl, rfl, ?_, keystone_ok_iff k, fun hok hw hw' hh hh' => ?_⟩
  · rw [Nat.max_comm]
    rfl
  · rw [keystone_ok_iff] at hok
    obtain ⟨hkv, hkh, -⟩ := hok
    have ht : insetTop w k ≤ w / 10 := inset_le (range := 40) (by omega)
    have hb : insetBottom w k ≤ w / 10 := inset_le (range := 40) (by omega)
    have hr : insetRight h k ≤ h / 10 := inset_le (range := 30) (by omega)
    have hl : insetLeft h k ≤ h / 10 := inset_le (range := 30) (by omega)
    refine ⟨?_, retained_bounds (by omega) (max_le ht hb), retained_bounds (by omega) (max_le hr hl)⟩
    intro c hc
    simp only [cornersOf, List.mem_cons, List.not_mem_nil, or_false] at hc
    rcases hc with rfl | rfl | rfl | rfl <;> refine ⟨?_, ?_⟩ <;> dsimp only <;> omega

end Sys2Proof.Machine
end

section
/-! The statements about the orders to the Source Router (R93 to R99, R104, R105, R109). -/

namespace Sys2Proof.Machine

/-! ## The table of hall sources searched -/

theorem positionOf_only {r : Router} {n : Nat} {i : Fin 16} {e : AliasEntry} (h : r.table[i] = some e)
    (he : e.source = n) (hu : ∀ (j : Fin 16) x, r.table[j] = some x → x.source = n → j = i) :
    r.positionOf n = some i := by
  refine find_only (by simp only [h, he, beq_self_eq_true]) fun j hj => ?_
  cases hx : r.table[j] with
  | none => simp only [hx] at hj; cases hj
  | some x => exact hu j x hx (by simpa only [hx, beq_iff_eq] using hj)

theorem positionOf_none {r : Router} {n : Nat} (h : ∀ (j : Fin 16) x, r.table[j] = some x → x.source ≠ n) :
    r.positionOf n = none := by
  rw [Router.positionOf, List.find?_eq_none]
  intro j _
  cases hx : r.table[j] with
  | none => simp
  | some x => simpa using h j x hx

theorem emptyPosition_lowest {r : Router} {i : Fin 16} (h : r.table[i] = none)
    (hl : ∀ j : Fin 16, j < i → r.table[j] ≠ none) : r.emptyPosition = some i :=
  find_lowest (by simp only [h, Option.isNone_none]) fun j hj => by
    cases hx : r.table[j] with
    | none => exact absurd hx (hl j hj)
    | some x => rfl

theorem emptyPosition_none {r : Router} (h : ∀ j : Fin 16, r.table[j] ≠ none) : r.emptyPosition = none := by
  rw [Router.emptyPosition, List.find?_eq_none]
  intro j _
  simpa using h j

/-- A search finds the one member that suits. -/
theorem find?_of_only {α : Type} {l : List α} {p : α → Bool} {a : α} (h : a ∈ l) (hp : p a = true)
    (hu : ∀ x ∈ l, p x = true → x = a) : l.find? p = some a := by
  cases hf : l.find? p with
  | none => exact absurd hp (List.find?_eq_none.1 hf a h)
  | some x => rw [hu x (List.mem_of_find?_eq_some hf) (List.find?_some hf)]

/-- A search does not see the replacement of a member that does not suit by another that does not. -/
theorem find?_set_of_not {α : Type} {p : α → Bool} {x : α} (hx : p x = false) (l : List α) (i : Nat)
    (h : ∀ y, l[i]? = some y → p y = false) : (l.set i x).find? p = l.find? p := by
  induction l generalizing i with
  | nil => rfl
  | cons a l ih =>
    cases i with
    | zero => simp [hx, h a rfl]
    | succ i => simp only [List.set_cons_succ, List.find?_cons, ih i fun y hy => h y (by simpa using hy)]

theorem lookup_only {r : Router} {i : Fin 16} {e : AliasEntry} (h : r.table[i] = some e)
    (hu : ∀ (j : Fin 16) x, r.table[j] = some x → x.source = e.source → j = i) : r.lookup e.source = some e := by
  refine find?_of_only ?_ (beq_self_eq_true _) fun x hx hs => ?_
  · rw [List.mem_filterMap]
    exact ⟨some e, (mem_toList_iff_fin _ _).2 ⟨i, h⟩, rfl⟩
  · obtain ⟨y, hy, hyx⟩ := List.mem_filterMap.1 hx
    obtain ⟨j, hj⟩ := (mem_toList_iff_fin _ _).1 hy
    have hx' : r.table[j] = some x := hj.trans hyx
    cases hu j x hx' (by simpa using hs)
    rw [h] at hx'
    exact (Option.some.inj hx').symm

/-- Emptying the position of one number leaves the entry of another. -/
theorem lookup_set_none {r : Router} {i : Fin 16} {old : AliasEntry} {m : Nat} (h : r.table[i] = some old)
    (hm : m ≠ old.source) : ({ r with table := r.table.set i none } : Router).lookup m = r.lookup m := by
  unfold Router.lookup
  rw [List.find?_filterMap, List.find?_filterMap]
  dsimp only
  rw [Vector.toList_set, find?_set_of_not rfl]
  intro y hy
  have hi : r.table.toList[i.val]? = some (some old) := by
    rw [← h, List.getElem?_eq_getElem (by simp)]
    rfl
  rw [hi] at hy
  cases hy
  simpa using hm.symm

/-! ## Selections -/

theorem beginSwitch_some {n : Nat} {p : Option Nat} {s : State} {e : AliasEntry} (h : s.router.lookup n = some e) :
    beginSwitch n p s = s.withRouter { s.router with
      selection := .switching, current := some n, pendingTarget := p, inFlightPort := some e.port, port := none,
      switchTimer := some (s.now + 3000), searchTimer := none, inputCommands := s.router.inputCommands + 1 } := by
  simp only [beginSwitch, h, Config.switchTime]

theorem takeSelect_begins {n : Nat} {s : State} {e : AliasEntry} (h : s.router.lookup n = some e)
    (hs : s.router.selection = .noSource ∨ s.router.selection = .searching ∨
      (s.router.selection = .settled ∧ s.router.current ≠ some n)) :
    takeSelect n s = (beginSwitch n none s, .started) := by
  unfold takeSelect
  rw [h]
  rcases hs with hs | hs | ⟨hs, hc⟩
  · simp only [hs]
  · simp only [hs]
  · simp only [hs, hc, if_false]

theorem takeSelect_switching {n : Nat} {s : State} {e : AliasEntry} (h : s.router.lookup n = some e)
    (hs : s.router.selection = .switching) :
    takeSelect n s =
      (s.withRouter { s.router with pendingTarget := if s.router.current = some n then none else some n }, .started) := by
  unfold takeSelect
  simp only [h, hs]
  split <;> rfl

/-- The CUE frames carry the address that stands, which no offer changes. -/
theorem offerCues_eq (authority : BitVec 3) (n : Byte) (u : State) (groups : List Nat) (address : BitVec 5)
    (ha : u.line.address = address) :
    groups.foldl (fun t g => offerFrame (cueFrame t authority.toNat g n.toNat) t) u =
      groups.foldl (fun t g => offerFrame
        { cls := 1, source := address, dest := 0x80, kind := .cue, authority := authority, payload := [byteOf g, n] } t)
        u := by
  induction groups generalizing u with
  | nil => rfl
  | cons g groups ih =>
    have hf : cueFrame u authority.toNat g n.toNat =
        { cls := 1, source := address, dest := 0x80, kind := .cue, authority := authority, payload := [byteOf g, n] } := by
      simp [cueFrame, destAll, byteOf, ha]
    rw [List.foldl_cons, List.foldl_cons, hf]
    exact ih _ ((offerMarked_signals _ _ _).address.trans ha)

theorem orderTaken_select {o : OrderFrame} {n : Byte} {s : State} (h : o.args = [n]) :
    orderTaken .select o s =
      (let r := takeSelect n.toNat s
       let answered := answer (s.direct o) false 0x22 o r.2 [] r.1
       if r.2 = .started then offerCues o.authority.toNat n.toNat answered else answered) := by
  unfold orderTaken
  simp only [ownerTakes, h, announce, plain]
  rfl

/-- Settles O22. -/
theorem selectionFollowsTheTable : Obligations.SelectionFollowsTheTable := by
  refine ⟨fun n s => ⟨fun h => ?_, fun e h => ⟨fun hs => ?_, takeSelect_switching h, fun hs hc => ?_⟩⟩,
    fun o n s h ha => ?_⟩
  · simp only [takeSelect, h]
  · rw [takeSelect_begins h hs, beginSwitch_some h]
  · simp only [takeSelect, h, hs, hc, if_true]
  · have ht := orderTaken_select (s := s) ha
    refine ⟨fun hr => effects_of_order rfl h (ht.trans (if_neg hr)), fun hr => ?_⟩
    refine effects_of_order rfl h (ht.trans ((if_pos hr).trans ?_))
    have hsettings : ∀ d r x, (answer d false 0x22 o r x (takeSelect n.toNat s).1).store.settings = s.store.settings := by
      intro d r x
      rw [answer_store, takeSelect_store]
    rw [offerCues, cueGroups, hsettings]
    refine offerCues_eq o.authority n _ _ s.line.address ?_
    have haddress : (takeSelect n.toNat s).1.line.address = s.line.address := by rw [takeSelect_line]
    rw [answer]
    split
    · exact (offerMarked_signals _ _ _).address.trans haddress
    · exact haddress

end Sys2Proof.Machine
end

section
/-! The statement about ALIAS WRITE and ALIAS CLEAR (R94, R95, R104, R105). -/

namespace Sys2Proof.Machine

theorem putAlias_router (i : Fin 16) (e : Option AliasEntry) (s : State) :
    (putAlias i e s).router = { s.router with table := s.router.table.set i e } := by simp [putAlias_eq]

/-! ## Writing -/

theorem takeAliasWrite_conflict {e : AliasEntry} {s : State} (h : e.fallback = some e.source) :
    takeAliasWrite e s = (s, .conflict) := by simp only [takeAliasWrite, h, if_true]

theorem takeAliasWrite_replaces {e old : AliasEntry} {i : Fin 16} {s : State} (h : e.fallback ≠ some e.source)
    (hi : s.router.table[i] = some old) (hs : old.source = e.source)
    (hu : ∀ (j : Fin 16) x, s.router.table[j] = some x → x.source = e.source → j = i) :
    takeAliasWrite e s = (afterReplace old e (putAlias i (some e) s), .done) := by
  simp only [takeAliasWrite, h, if_false, positionOf_only hi hs hu, hi]

theorem takeAliasWrite_adds {e : AliasEntry} {i : Fin 16} {s : State} (h : e.fallback ≠ some e.source)
    (hn : ∀ (j : Fin 16) x, s.router.table[j] = some x → x.source ≠ e.source) (hi : s.router.table[i] = none)
    (hl : ∀ j : Fin 16, j < i → s.router.table[j] ≠ none) :
    takeAliasWrite e s = (putAlias i (some e) s, .done) := by
  simp only [takeAliasWrite, h, if_false, positionOf_none hn, emptyPosition_lowest hi hl]

theorem takeAliasWrite_full {e : AliasEntry} {s : State} (h : e.fallback ≠ some e.source)
    (hn : ∀ (j : Fin 16) x, s.router.table[j] = some x → x.source ≠ e.source)
    (hl : ∀ j : Fin 16, s.router.table[j] ≠ none) : takeAliasWrite e s = (s, .full) := by
  simp only [takeAliasWrite, h, if_false, positionOf_none hn, emptyPosition_none hl]

theorem afterReplace_stays {old new : AliasEntry} {s : State}
    (h : s.router.current ≠ some new.source ∨ old.port = new.port ∨ s.router.selection = .noSource) :
    afterReplace old new s = s := by
  unfold afterReplace
  split
  · rename_i hc
    rcases h with h | h | h
    · exact absurd hc.1 h
    · exact absurd h hc.2
    · simp only [h]
  · rfl

theorem afterReplace_switches {old new : AliasEntry} {s : State} (hc : s.router.current = some new.source)
    (hp : old.port ≠ new.port) (hs : s.router.selection ≠ .noSource) :
    afterReplace old new s =
      beginSwitch new.source (if s.router.selection = .switching then s.router.pendingTarget else none) s := by
  rw [afterReplace, if_pos ⟨hc, hp⟩]
  cases hsel : s.router.selection with
  | noSource => exact absurd hsel hs
  | switching => rfl
  | settled => rfl
  | searching => rfl

/-- The entry written is found under its number. -/
theorem putAlias_lookup {e : AliasEntry} {i : Fin 16} {s : State}
    (hu : ∀ (j : Fin 16) x, s.router.table[j] = some x → x.source = e.source → j = i) :
    (putAlias i (some e) s).router.lookup e.source = some e := by
  rw [putAlias_router]
  refine lookup_only (i := i) ?_ fun j x hj hx => ?_
  · exact (vector_set_fin _ _ _ _).trans (if_pos rfl)
  · rw [vector_set_fin] at hj
    by_cases hij : i = j
    · exact hij.symm
    · exact hu j x (by simpa only [hij, if_false] using hj) hx

theorem takeAliasWrite_switches {e old : AliasEntry} {i : Fin 16} {s : State} (h : e.fallback ≠ some e.source)
    (hi : s.router.table[i] = some old) (hs : old.source = e.source)
    (hu : ∀ (j : Fin 16) x, s.router.table[j] = some x → x.source = e.source → j = i)
    (hc : s.router.current = some e.source) (hp : old.port ≠ e.port) (hsel : s.router.selection ≠ .noSource) :
    takeAliasWrite e s =
      ((putAlias i (some e) s).withRouter { (putAlias i (some e) s).router with
        selection := .switching
        pendingTarget := if s.router.selection = .switching then s.router.pendingTarget else none
        inFlightPort := some e.port, port := none, switchTimer := some (s.now + 3000), searchTimer := none,
        inputCommands := s.router.inputCommands + 1 }, .done) := by
  have hr := putAlias_router i (some e) s
  have hc' : (putAlias i (some e) s).router.current = some e.source := by rw [hr]; exact hc
  have hsel' : (putAlias i (some e) s).router.selection ≠ .noSource := by rw [hr]; exact hsel
  rw [takeAliasWrite_replaces h hi hs hu, afterReplace_switches hc' hp hsel', beginSwitch_some (putAlias_lookup hu),
    putAlias_now, ← hc', hr]

theorem ownerTakes_aliasWrite {t : Taken} {e : AliasEntry} (s : State) (h : aliasOf t.args = some e) :
    ownerTakes .aliasWrite t s = plain (takeAliasWrite e s) := by
  simp only [ownerTakes, h]

/-! ## Clearing -/

theorem takeAliasClear_unknown {n : Nat} {s : State}
    (h : ∀ (j : Fin 16) x, s.router.table[j] = some x → x.source ≠ n) : takeAliasClear n s = (s, .unknown) := by
  simp only [takeAliasClear, positionOf_none h]

theorem takeAliasClear_empties {n : Nat} {i : Fin 16} {old : AliasEntry} {s : State}
    (hi : s.router.table[i] = some old) (hs : old.source = n)
    (hu : ∀ (j : Fin 16) x, s.router.table[j] = some x → x.source = n → j = i) :
    takeAliasClear n s = (afterClear n (putAlias i none s), .done) := by
  simp only [takeAliasClear, positionOf_only hi hs hu]

theorem afterClear_stays {n : Nat} {s : State} (hc : s.router.current ≠ some n)
    (h : s.router.selection ≠ .switching ∨ s.router.pendingTarget ≠ some n) : afterClear n s = s := by
  rw [afterClear, if_neg hc, if_neg]
  rintro ⟨hs, hp⟩
  rcases h with h | h
  · exact h hs
  · exact h hp

theorem afterClear_drops {n : Nat} {s : State} (hc : s.router.current ≠ some n) (hs : s.router.selection = .switching)
    (hp : s.router.pendingTarget = some n) :
    afterClear n s = s.withRouter { s.router with pendingTarget := none } := by
  rw [afterClear, if_neg hc, if_pos ⟨hs, hp⟩]

theorem afterClear_parks {n : Nat} {s : State} (hc : s.router.current = some n) (hs : s.router.selection ≠ .noSource)
    (h : s.router.selection ≠ .switching ∨ s.router.pendingTarget = none) :
    afterClear n s = s.withRouter s.router.parked := by
  rw [afterClear, if_pos hc]
  split
  case h_1 hsel hp =>
    rcases h with h | h
    · exact absurd hsel h
    · rw [h] at hp
      cases hp
  case h_2 hsel => exact absurd hsel hs
  case h_3 => rfl

theorem afterClear_switches {n m : Nat} {s : State} (hc : s.router.current = some n)
    (hs : s.router.selection = .switching) (hp : s.router.pendingTarget = some m) :
    afterClear n s = beginSwitch m none s := by
  rw [afterClear, if_pos hc]
  simp only [hs, hp]

/-- The pending target's own entry stands when the current source's is cleared. -/
theorem afterClear_targets {n m : Nat} {i : Fin 16} {old e : AliasEntry} {s : State}
    (hi : s.router.table[i] = some old) (hs : old.source = n) (hc : s.router.current = some n)
    (hsel : s.router.selection = .switching) (hp : s.router.pendingTarget = some m) (hm : m ≠ n)
    (hl : s.router.lookup m = some e) :
    afterClear n (putAlias i none s) =
      (putAlias i none s).withRouter { (putAlias i none s).router with
        selection := .switching, current := some m, pendingTarget := none, inFlightPort := some e.port, port := none,
        switchTimer := some (s.now + 3000), searchTimer := none, inputCommands := s.router.inputCommands + 1 } := by
  have hr := putAlias_router i none s
  have hlook : (putAlias i none s).router.lookup m = some e := by
    rw [hr, lookup_set_none hi (hs ▸ hm)]
    exact hl
  rw [afterClear_switches (m := m) (by rw [hr]; exact hc) (by rw [hr]; exact hsel) (by rw [hr]; exact hp),
    beginSwitch_some hlook, putAlias_now, hr]

theorem ownerTakes_aliasClear {t : Taken} {n : Byte} (s : State) (h : t.args = [n]) :
    ownerTakes .aliasClear t s = plain (takeAliasClear n.toNat s) := by
  simp only [ownerTakes, h]

/-- Settles O23, by position and selection. -/
theorem aliasPositionsAreWrittenAndCleared : Obligations.AliasPositionsAreWrittenAndCleared := by
  refine ⟨fun o e s h ha => ?_, fun o n s h ha => ?_⟩
  · have owner {u r} (hx : takeAliasWrite e s = (u, r)) :
        Effects (.aliasWrite o) s (answer (s.direct o) false 0x23 o r [] u) :=
      effects_of_owner .aliasWrite rfl h nofun nofun ((ownerTakes_aliasWrite s ha).trans (congrArg plain hx))
    refine ⟨fun hf => owner (takeAliasWrite_conflict hf), fun hf => ⟨fun i old hi hs hu => ⟨fun hstay => ?_,
      fun hc hp hsel => owner (takeAliasWrite_switches hf hi hs hu hc hp hsel)⟩, fun hn =>
      ⟨fun i hi hl => owner (takeAliasWrite_adds hf hn hi hl), fun hl => owner (takeAliasWrite_full hf hn hl)⟩⟩⟩
    refine owner ((takeAliasWrite_replaces hf hi hs hu).trans ?_)
    rw [afterReplace_stays (by rw [putAlias_router]; exact hstay), putAlias_eq]
  · have owner {u r} (hx : takeAliasClear n.toNat s = (u, r)) :
        Effects (.aliasClear o) s (answer (s.direct o) false 0x24 o r [] u) :=
      effects_of_owner .aliasClear rfl h nofun nofun ((ownerTakes_aliasClear s ha).trans (congrArg plain hx))
    refine ⟨fun hn => owner (takeAliasClear_unknown hn), fun i old hi hs hu => ?_⟩
    have hr := putAlias_router i none s
    have cleared {u} (hx : afterClear n.toNat (putAlias i none s) = u) : takeAliasClear n.toNat s = (u, .done) := by
      rw [takeAliasClear_empties hi hs hu, hx]
    refine ⟨fun hc hp => owner (cleared (afterClear_stays ?_ ?_)),
      fun hc hsel hp => owner (cleared (afterClear_drops ?_ ?_ ?_)),
      fun hc hsel hp => owner (cleared ((afterClear_parks ?_ ?_ ?_).trans ?_)),
      fun m e hc hsel hp hm hl => owner (cleared (afterClear_targets hi hs hc hsel hp hm hl))⟩
    case refine_9 =>
      have hcommands : (putAlias i none s).router.inputCommands = s.router.inputCommands := by rw [hr]
      rw [Router.parked, hcommands]
      rfl
    all_goals rw [hr]; assumption

end Sys2Proof.Machine
end

section
/-! The statements about the acceptance path of orders (R35 to R42). -/

namespace Sys2Proof.Machine

/-! ## Forms and ranges -/

theorem numberOf_two (a b : Byte) : numberOf [a, b] = a.toNat * 256 + b.toNat := by simp [numberOf]

theorem labelForm_iff (bytes : List Byte) :
    labelForm bytes = true ↔ ∃ len label, bytes = len :: label ∧ len.toNat ≤ 8 ∧ label.length = len.toNat ∧
      ∀ x ∈ label, 0x20 ≤ x.toNat ∧ x.toNat ≤ 0x7E := by
  cases bytes with
  | nil => simp [labelForm]
  | cons len label => simp [labelForm, printable, and_assoc]

theorem aliasWriteForm_iff (args : List Byte) :
    orderFormOk .aliasWrite args = true ↔
      ∃ source port fallback rest, args = source :: port :: fallback :: rest ∧ labelForm rest = true := by
  rw [orderFormOk, Bool.and_eq_true, decide_eq_true_eq]
  constructor
  · rintro ⟨hlen, hform⟩
    match args, hlen with
    | source :: port :: fallback :: rest, _ => exact ⟨source, port, fallback, rest, rfl, hform⟩
  · rintro ⟨source, port, fallback, rest, rfl, hform⟩
    cases rest with
    | nil => cases hform
    | cons len label => exact ⟨by simp, hform⟩

theorem orderFormOk_iff (kind : OrderKind) (args : List Byte) :
    orderFormOk kind args = true ↔
      (match kind with
        | .light | .rest | .showPicture | .blank | .restart => args.length = 0
        | .setMode | .select | .aliasClear | .storePreset | .recallPreset | .entryClear => args.length = 1
        | .setKeystone | .nudgeKeystone | .unlock | .acknowledge | .query => args.length = 2
        | .lock => args.length = 3
        | .timeSet => args.length = 4
        | .aliasWrite =>
          ∃ source port fallback rest, args = source :: port :: fallback :: rest ∧ labelForm rest = true
        | .wearReset => labelForm args = true
        | .entryWrite => args.length = 12
        | .settingsWrite => args.length = 19) := by
  cases kind
  case aliasWrite => exact aliasWriteForm_iff args
  case wearReset => exact Iff.rfl
  all_goals exact beq_iff_eq

theorem modeOfCode_isSome (n : Nat) : (modeOfCode n).isSome = true ↔ n ≤ 2 := by
  match n with
  | 0 => decide
  | 1 => decide
  | 2 => decide
  | n + 3 => simp [modeOfCode]

theorem ofZeroAbsent_eq_some (n m : Nat) : ofZeroAbsent n = some m ↔ n ≠ 0 ∧ n = m := by
  unfold ofZeroAbsent
  split <;> simp_all

theorem ofZeroAbsent_within (n bound : Nat) :
    (∀ m, ofZeroAbsent n = some m → 1 ≤ m ∧ m ≤ bound) ↔ n ≤ bound := by
  simp only [ofZeroAbsent_eq_some]
  refine ⟨fun h => ?_, ?_⟩
  · by_cases hn : n = 0
    · omega
    · exact (h n ⟨hn, rfl⟩).2
  · rintro h m ⟨hn, rfl⟩
    omega

theorem topAbsent_within (b : Byte) (bound : Nat) :
    (∀ m, (if b = 255 then none else some b.toNat) = some m → m ≤ bound) ↔ b.toNat ≤ bound ∨ b = 255 := by
  by_cases h : b = 255
  · simp [h]
  · simp only [h, if_false, or_false, Option.some.injEq, forall_eq']

theorem entry_ok_iff (e : Entry) :
    e.ok = true ↔
      e.days.getLsbD 7 = false ∧ e.start < e.stop ∧ e.stop ≤ 1440 ∧ e.group ≤ 7 ∧ 1 ≤ e.demand ∧ e.demand ≤ 8 ∧
        (∀ n, e.source = some n → 1 ≤ n ∧ n ≤ 63) ∧ (∀ n, e.preset = some n → n ≤ 3) ∧
        (∀ n, e.level = some n → 1 ≤ n ∧ n ≤ 7) := by
  obtain ⟨days, start, stop, group, demand, source, preset, mode, level⟩ := e
  cases source <;> cases preset <;> cases level <;> simp [Entry.ok, and_assoc]

theorem parseEntry_isSome (days b1 b0 e1 e0 group demand source preset mode level : Byte) :
    (parseEntry [days, b1, b0, e1, e0, group, demand, source, preset, mode, level]).isSome = true ↔
      days.getLsbD 7 = false ∧ b1.toNat * 256 + b0.toNat < e1.toNat * 256 + e0.toNat ∧
        e1.toNat * 256 + e0.toNat ≤ 1440 ∧ group.toNat ≤ 7 ∧ 1 ≤ demand.toNat ∧ demand.toNat ≤ 8 ∧
        source.toNat ≤ 63 ∧ (preset.toNat ≤ 3 ∨ preset = 255) ∧ (mode.toNat ≤ 2 ∨ mode = 255) ∧ level.toNat ≤ 7 := by
  simp only [parseEntry, Option.isSome_ite, Bool.and_eq_true, Bool.or_eq_true, beq_iff_eq, modeOfCode_isSome,
    entry_ok_iff, ofZeroAbsent_within, topAbsent_within, numberOf_two]
  tauto

theorem noticeMask_high (b : Byte) : b &&& 0x0F &&& 0xF0 = 0 := by
  rw [BitVec.and_assoc]
  exact BitVec.and_zero

theorem parseSettings_isSome
    (groups cues follow l1 l0 m1 m0 a1 a0 p w c1 c0 x1 x0 y1 y0 keypad notice : Byte) :
    let n (hi lo : Byte) : Nat := hi.toNat * 256 + lo.toNat
    (parseSettings
        [groups, cues, follow, l1, l0, m1, m0, a1, a0, p, w, c1, c0, x1, x0, y1, y0, keypad, notice]).isSome = true ↔
      500 ≤ n l1 l0 ∧ n l1 l0 ≤ 20000 ∧ 10 ≤ n m1 m0 ∧ n m1 m0 ≤ 2000 ∧ n a1 a0 ≤ 1000 ∧ 2 ≤ p.toNat ∧ p.toNat ≤ 15 ∧
        30 ≤ w.toNat ∧ w.toNat ≤ 120 ∧ 60 ≤ n c1 c0 ∧ n c1 c0 ≤ 300 ∧ 640 ≤ n x1 x0 ∧ n x1 x0 ≤ 4096 ∧
        480 ≤ n y1 y0 ∧ n y1 y0 ≤ 2400 ∧ keypad.toNat ≤ 3 := by
  simp only [parseSettings, Option.isSome_ite, Settings.ok, numberOf_two, decide_eq_true_eq, noticeMask_high, and_true]

/-! ## The acceptance path -/

theorem receiveOrder_same {code : Byte} {o : OrderFrame} {s : State}
    (h : s.line.skipping = true ∨ (o.source ≠ s.line.address ∧ s.line.state ≠ .active)) : receiveOrder code o s = s := by
  rcases h with h | ⟨ho, ha⟩
  · simp [receiveOrder, h]
  · simp [receiveOrder, ho, ha]

theorem receiveOrder_other {code : Byte} {o : OrderFrame} {s : State} (ho : o.source ≠ s.line.address)
    (hd : decodeAny code o s = s) : receiveOrder code o s = s := by
  simp [receiveOrder, ho, hd]

theorem decodeOrder_same {kind : OrderKind} {o : OrderFrame} {s : State}
    (h : s.destined o.dest = .notOurs ∨ (s.destined o.dest = .shared ∧ orderDirectOnly kind = true)) :
    decodeOrder kind o s = s := by
  rcases h with h | ⟨h, hd⟩
  · simp [decodeOrder, h]
  · simp [decodeOrder, h, hd]

/-- An order the checks refuse only answers (R37 to R39). -/
theorem refused_effects {i : Instr} {kind : OrderKind} {o : OrderFrame} {r : Result} {s : State}
    (hi : orderCarried i = some (kind, o)) (h : Delivered o s) (hj : s.judges kind o)
    (hr : orderRefusal kind o.authority.toNat o.args s = some r) :
    (s.direct o = true → Effects i s (offerFrame (answerFrame s o.source kind.code o.tag r []) s)) ∧
      (s.direct o = false → exec i s = .next s) := by
  have hrec := receiveOrder_refused h hj hr
  refine ⟨fun hd => effects_of_command h.released (exec_order hi s) ?_, fun hd => ?_⟩
  · rw [hrec, hd]
    rfl
  · rw [exec_order hi]
    refine command_same ?_
    rw [hrec, hd]
    rfl

/-- Settles O16. -/
theorem refusedOrderOnlyAnswers : Obligations.RefusedOrderOnlyAnswers := by
  refine ⟨fun i kind o r s hi h hj hr => refused_effects hi h hj hr, fun kind authority args s => ?_,
    fun kind args => ?_, fun a b c d label => ?_, fun slot days b1 b0 e1 e0 group demand source preset mode level => ?_,
    fun groups cues follow l1 l0 m1 m0 a1 a0 p w c1 c0 x1 x0 y1 y0 keypad notice => ?_, fun kind args h => ?_⟩
  · simp only [orderRefusal, Bool.and_eq_true]
  · have hform := orderFormOk_iff kind args
    simp only [labelForm_iff] at hform
    exact hform
  · simp [orderRangeOk, sourceInRange, timeInRange, numberOf_two, and_assoc]
  · rw [orderRangeOk, Bool.and_eq_true, decide_eq_true_eq, parseEntry_isSome]
  · exact parseSettings_isSome _ _ _ _ _ _ _ _ _ _ _ _ _ _ _ _ _ _ _
  · rcases h with rfl | rfl | rfl | rfl | rfl | rfl | rfl | rfl <;> rfl

/-! ## Orders not taken here -/

theorem dest_station : ∀ value : BitVec 5,
    destKind (0#3 ++ value) = 0 ∧ destValue (0#3 ++ value) = value.toNat := by decide

theorem dest_group : ∀ value : BitVec 5,
    destKind (2#3 ++ value) = 1 ∧ destValue (2#3 ++ value) = value.toNat := by decide

theorem dest_all : ∀ value : BitVec 5, destKind (4#3 ++ value) = 2 := by decide

theorem destined_station (s : State) (value : BitVec 5) :
    s.destined (0#3 ++ value) =
      if value = 31 then .shared else if value = s.line.address then .direct else .notOurs := by
  obtain ⟨hk, hv⟩ := dest_station value
  have h31 : value.toNat = 31 ↔ value = 31 := BitVec.toNat_inj (y := 31#5)
  simp only [State.destined, hk, hv, h31, BitVec.toNat_inj]

theorem destined_group (s : State) (value : BitVec 5) :
    s.destined (2#3 ++ value) = if s.store.settings.groups.getLsbD value.toNat = true then .shared else .notOurs := by
  obtain ⟨hk, hv⟩ := dest_group value
  simp only [State.destined, hk, hv, Settings.member]

theorem destined_all (s : State) (value : BitVec 5) : s.destined (4#3 ++ value) = .shared := by
  simp only [State.destined, dest_all]

theorem exec_unknownOrder (code : Byte) (o : OrderFrame) (s : State) :
    exec (.unknownOrder code o) s = command (receiveOrder code o) s := rfl

theorem receiveOrder_unknown {code : Byte} {o : OrderFrame} {s : State} (hc : orderOfCode code = none)
    (h : Delivered o s) : receiveOrder code o s = decodeUnknown code o s := by
  rw [receiveOrder_delivered h, decodeAny, hc]

theorem decodeUnknown_eq (code : Byte) (o : OrderFrame) (s : State) :
    decodeUnknown code o s = answer (s.direct o) false code o .unknown [] s := by
  unfold decodeUnknown State.direct
  cases s.destined o.dest <;> rfl

/-- Settles O17. -/
theorem ordersNotTakenHere : Obligations.OrdersNotTakenHere := by
  refine ⟨fun i kind o s hi h => ?_, fun code o s hc h => ⟨fun hd => ?_, fun hd => ?_⟩, fun s o code result data m =>
    ⟨rfl, rfl⟩, fun s value => ⟨destined_station s value, destined_group s value, destined_all s value⟩, fun kind => ?_⟩
  · rw [exec_order hi]
    refine command_same ?_
    rcases h with h | ⟨ho, ha | hn⟩
    · exact receiveOrder_same (.inl h)
    · exact receiveOrder_same (.inr ⟨ho, ha⟩)
    · refine receiveOrder_other ho ?_
      rw [decodeAny, orderOfCode_code]
      exact decodeOrder_same hn
  · refine effects_of_command h.released (exec_unknownOrder code o s) ?_
    rw [receiveOrder_unknown hc h, decodeUnknown_eq, hd]
    rfl
  · rw [exec_unknownOrder]
    refine command_same ?_
    rw [receiveOrder_unknown hc h, decodeUnknown_eq, hd]
    rfl
  · cases kind <;> decide

end Sys2Proof.Machine
end

section
/-! The statements about the clock and the cues that the line brings (R110, R144 to R146). -/

namespace Sys2Proof.Machine

/-! ## A frame of another station -/

theorem receive_frame {bytes : List Byte} {f : Frame} {s : State} (hs : s.line.skipping = false)
    (hf : readFrame bytes = .frame f) : receive bytes s = takeFrame f s := by
  simp [receive, hs, hf]

theorem takeFrame_other {f : Frame} {s : State} (ho : f.source ≠ s.line.address)
    (hl : lengthSuits f.kind f.payload = true) : takeFrame f s = deliver f s := by
  simp [takeFrame, ho, hl]

theorem takeFrame_unsuited {f : Frame} {s : State} (ho : f.source ≠ s.line.address)
    (hl : lengthSuits f.kind f.payload = false) : takeFrame f s = s := by
  simp [takeFrame, ho, hl]

/-! ## The clock -/

theorem deliver_clock {f : Frame} (s : State) (hk : f.kind = .clock) : deliver f s = takeClock f.payload s := by
  simp [deliver, hk]

theorem takeClock_four (day m1 m0 second : Byte) (s : State) :
    takeClock [day, m1, m0, second] s =
      if day.toNat ≤ 6 ∧ m1.toNat * 256 + m0.toNat ≤ 1439 ∧ second.toNat ≤ 59 then
        setClock day.toNat (m1.toNat * 256 + m0.toNat) second.toNat s
      else s := by
  simp only [takeClock, timeInRange, numberOf_two, decide_eq_true_eq]

theorem setClock_differs {day minute second : Nat} {s : State}
    (h : s.schedule.valid = false ∨ s.schedule.day ≠ day ∨ s.schedule.minute ≠ minute) :
    setClock day minute second s = evaluateSchedule none
      (s.withSchedule { s.schedule with day := day, minute := minute, second := second, valid := true }) := by
  simp only [setClock, h, if_true]

theorem setClock_agrees {day minute second : Nat} {s : State}
    (h : s.schedule.valid = true ∧ s.schedule.day = day ∧ s.schedule.minute = minute) :
    setClock day minute second s = s.withSchedule { s.schedule with second := second } := by
  obtain ⟨hv, rfl, rfl⟩ := h
  rw [setClock, if_neg (by simp [hv]), ← hv]

theorem applyEntry_schedule (e : Entry) (s : State) : (applyEntry e s).schedule = s.schedule := by simp [applyEntry]

theorem endEntry_schedule (s : State) : (endEntry s).schedule = s.schedule := by simp [endEntry]

/-- An evaluation of the schedule leaves the clock and the table. -/
theorem evaluateSchedule_schedule (written : Option Nat) (s : State) :
    (evaluateSchedule written s).schedule =
      { s.schedule with governing := (evaluateSchedule written s).schedule.governing } := by
  unfold evaluateSchedule
  split
  · split
    · simp
    · simp only [evaluate_schedule, applyEntry_schedule, setGoverning, State.withSchedule_schedule]
  · split
    · simp
    · simp only [evaluate_schedule, endEntry_schedule, setGoverning, State.withSchedule_schedule]

theorem setClock_schedule (day minute second : Nat) (s : State) :
    (setClock day minute second s).schedule =
      { s.schedule with
        day := day, minute := minute, second := second, valid := true,
        governing := (setClock day minute second s).schedule.governing } := by
  unfold setClock
  dsimp only
  split
  · exact evaluateSchedule_schedule _ _
  · rfl

theorem ownerTakes_timeSet {t : Taken} {day m1 m0 second : Byte} (s : State) (h : t.args = [day, m1, m0, second]) :
    ownerTakes .timeSet t s =
      plain (setClock day.toNat (m1.toNat * 256 + m0.toNat) second.toNat s, .done) := by
  simp only [ownerTakes, h, numberOf_two]

/-- Settles O14. -/
theorem settingTheClock : Obligations.SettingTheClock := by
  refine ⟨fun day minute second s => ⟨setClock_agrees, setClock_differs, ?_⟩,
    fun bytes f day m1 m0 second s hr hs hf ho hk hp => ?_, fun o day m1 m0 second s h ha => ?_⟩
  · rw [setClock_schedule]
    exact ⟨rfl, rfl, rfl, rfl, rfl⟩
  · have hlen : lengthSuits f.kind f.payload = true := by rw [hk, hp]; rfl
    have htake : receive bytes s = takeClock [day, m1, m0, second] s := by
      rw [receive_frame hs hf, takeFrame_other ho hlen, deliver_clock s hk, hp]
    rw [takeClock_four] at htake
    refine ⟨fun h => effects_of_command hr rfl (htake.trans (if_pos h)), fun h => ?_⟩
    exact command_same (htake.trans (if_neg (by omega)))
  · exact effects_of_owner .timeSet rfl h nofun nofun (ownerTakes_timeSet s ha)

/-! ## Cues -/

theorem deliver_cue {f : Frame} {group source : Byte} {s : State} (hk : f.kind = .cue) (hs : s.line.state ≠ .listen)
    (hp : f.payload = [group, source]) : deliver f s = takeCue f.authority.toNat group.toNat source.toNat s := by
  unfold deliver
  rw [hk, hp]
  cases hstate : s.line.state with
  | listen => exact absurd hstate hs
  | active => rfl
  | clash => rfl

theorem deliver_cue_listen {f : Frame} {s : State} (hk : f.kind = .cue) (hs : s.line.state = .listen) :
    deliver f s = s := by
  simp only [deliver, hk, hs]

theorem takeCue_eq (authority group source : Nat) (s : State) :
    takeCue authority group source s =
      if group ≤ 7 ∧ 1 ≤ source ∧ source ≤ 63 ∧ s.store.settings.follow.getLsbD group = true ∧ s.level < authority then
        (takeSelect source s).1
      else s := by
  have hcheck : s.lockoutCheck authority (orderMinAuthority .select) (orderLockable .select) =
      if authority ≤ s.level then some .locked else none := by
    simp [State.lockoutCheck, orderMinAuthority, orderLockable]
  unfold takeCue
  rw [hcheck]
  by_cases hlevel : s.level < authority
  · simp only [hlevel, and_true, Nat.not_le.2 hlevel, if_false]
  · simp only [hlevel, and_false, Nat.not_lt.1 hlevel, if_true, if_false, ite_self]

/-- Settles O15. -/
theorem cueIsFollowed : Obligations.CueIsFollowed := by
  intro bytes f group source s hr hs hf ho hk hp
  have hlen : lengthSuits f.kind f.payload = true := by rw [hk, hp]; rfl
  have hdel : receive bytes s = deliver f s := by rw [receive_frame hs hf, takeFrame_other ho hlen]
  refine ⟨fun hstate hgroup h1 h63 hfollow hlevel => ?_, fun h => command_same (hdel.trans ?_)⟩
  · refine effects_of_command hr rfl ?_
    rw [hdel, deliver_cue hk hstate hp, takeCue_eq, if_pos ⟨hgroup, h1, h63, hfollow, hlevel⟩]
  · by_cases hstate : s.line.state = .listen
    · exact deliver_cue_listen hk hstate
    · rw [deliver_cue hk hstate hp, takeCue_eq, if_neg]
      rintro ⟨hgroup, h1, h63, hfollow, hlevel⟩
      rcases h with h | h | h | h | h | h
      · exact hstate h
      · omega
      · omega
      · omega
      · rw [hfollow] at h
        cases h
      · omega

end Sys2Proof.Machine
end

section
/-! The statements about the transmit queue, contention and the end of an attempt (R3, R5, R8 to R16, R23). -/

namespace Sys2Proof.Machine

/-! ## Searches of the queue -/

/-- A search finds the first member that suits. -/
theorem findIdx?_first {α : Type} {l : List α} {p : α → Bool} {i : Nat} {a : α} (h : l[i]? = some a) (hp : p a = true)
    (hl : ∀ j b, j < i → l[j]? = some b → p b = false) : l.findIdx? p = some i := by
  obtain ⟨hi, rfl⟩ := List.getElem?_eq_some_iff.1 h
  rw [List.findIdx?_eq_some_iff_getElem]
  exact ⟨hi, hp, fun j hj => by simpa using hl j _ hj (List.getElem?_eq_getElem (by omega))⟩

theorem modify_of_getElem? {α : Type} {l : List α} {i : Nat} {a : α} (g : α → α) (h : l[i]? = some a) :
    l.modify i g = l.set i (g a) := by
  rw [List.modify_eq_set_getElem?, h]
  rfl

theorem beaconPlace_first {queue : List QueuedFrame} {i : Nat} {q : QueuedFrame} (h : queue[i]? = some q)
    (hk : q.frame.kind = .beacon) (hl : ∀ j r, j < i → queue[j]? = some r → r.frame.kind ≠ .beacon) :
    beaconPlace queue = some i :=
  findIdx?_first h (by simp [hk]) fun j r hj hr => by simpa using hl j r hj hr

theorem beaconPlace_absent {queue : List QueuedFrame} (h : ∀ q ∈ queue, q.frame.kind ≠ .beacon) :
    beaconPlace queue = none := by
  rw [beaconPlace, List.findIdx?_eq_none_iff]
  intro q hq
  simpa using h q hq

theorem queueHasRoom_of_lt {s : State} (h : s.line.queue.length < 8) : s.queueHasRoom = true :=
  (queueHasRoom_iff s).2 h

theorem queueHasRoom_of_le {s : State} (h : 8 ≤ s.line.queue.length) : s.queueHasRoom = false := by
  rw [← Bool.not_eq_true, queueHasRoom_iff]
  exact Nat.not_lt.2 h

/-! ## Failures -/

theorem failureOf_eq (reason : FailureReason) (f : Frame) :
    failureOf reason f = { reason := reason, kind := f.kind, dest := f.dest, codeTag := answerCodeTag f } := by
  obtain ⟨cls, source, dest, kind, authority, payload⟩ := f
  rcases payload with _ | ⟨a, _ | ⟨b, rest⟩⟩ <;> cases kind <;> rfl

theorem recordFailure_overflow {r old : FailureRecord} {s : State} (h : s.line.failure = some old) :
    recordFailure r s = s.withLine { s.line with overflow := true } := by simp only [recordFailure, h]

theorem bytesOf_two (n : Nat) : bytesOf 2 n = [byteOf (n / 256), byteOf n] := by simp [bytesOf]

theorem byteOf_low (a b : Nat) : byteOf (a * 256 + b) = byteOf b := by
  apply BitVec.eq_of_toNat_eq
  simp [byteOf]

/-- The NOTICE of TRANSMIT FAILED carries the reason and the frame kind (R175). -/
theorem failureNotice_payload (r : FailureRecord) :
    noticePayload .transmitFailed (failureDetail r) = [6, byteOf (reasonCode r.reason), byteOf r.kind.code.toNat] := by
  have hk := r.kind.code.isLt
  have hd : (reasonCode r.reason * 256 + r.kind.code.toNat) / 256 = reasonCode r.reason := by omega
  rw [noticePayload, failureDetail, bytesOf_two, hd, byteOf_low]
  rfl

theorem offerFailureNotice_eq (r : FailureRecord) (s : State) :
    offerFailureNotice r s =
      if s.line.state = .active then
        if s.line.queue.length < 8 then
          joinQueue
            { cls := 1, source := s.line.address, dest := 0x80, kind := .notice, authority := 0,
              payload := [6, byteOf (reasonCode r.reason), byteOf r.kind.code.toNat] } false s
        else s.withLine { s.line with overflow := true }
      else s := by
  have hframe : noticeFrame s .transmitFailed (failureDetail r) =
      { cls := 1, source := s.line.address, dest := 0x80, kind := .notice, authority := 0,
        payload := [6, byteOf (reasonCode r.reason), byteOf r.kind.code.toNat] } := by
    rw [noticeFrame, failureNotice_payload]
    rfl
  simp only [offerFailureNotice, hframe, queueHasRoom_iff, Config.queueSize]

/-- The first failure is logged and latched, and its NOTICE offered where it is wanted (R16). -/
theorem recordFailure_latches {r : FailureRecord} {s : State} (h : s.line.failure = none)
    (hl : s.latched .transmitFailed = false) :
    recordFailure r s =
      (let logged := (s.withLine { s.line with failure := some r, overflow := false }).withConditions
        (s.conditions ||| 0x40#9)
       if s.store.settings.noticeMask.getLsbD 2 = true then offerFailureNotice r logged else logged) := by
  unfold recordFailure
  rw [h]
  exact if_neg (by rw [hl]; decide)

theorem recordFailure_first {r : FailureRecord} {s : State} (h : s.line.failure = none)
    (hl : s.latched .transmitFailed = false) :
    let logged := (s.withLine { s.line with failure := some r, overflow := false }).withConditions
      (s.conditions ||| 0x40#9)
    recordFailure r s =
      if s.store.settings.noticeMask.getLsbD 2 = true ∧ s.line.state = .active then
        if s.line.queue.length < 8 then
          joinQueue
            { cls := 1, source := s.line.address, dest := 0x80, kind := .notice, authority := 0,
              payload := [6, byteOf (reasonCode r.reason), byteOf r.kind.code.toNat] } false logged
        else logged.withLine { logged.line with overflow := true }
      else logged := by
  intro logged
  rw [recordFailure_latches h hl]
  dsimp only
  rw [offerFailureNotice_eq, ite_and]
  rfl

/-! ## Offered frames -/

theorem offerFrame_inactive {f : Frame} {s : State} (h : s.line.state ≠ .active) : offerFrame f s = s := by
  simp [offerFrame, offerMarked, h]

theorem offerFrame_joins {f : Frame} {s : State} (h : s.line.state = .active) (hr : s.line.queue.length < 8) :
    offerFrame f s = s.withLine
      { s.line with queue := s.line.queue ++ [{ frame := f, attempts := 0, forRestart := false }] } := by
  rw [offerFrame, offerMarked, if_pos h, if_pos (queueHasRoom_of_lt hr)]
  rfl

theorem offerFrame_refused {f : Frame} {s : State} (h : s.line.state = .active) (hr : 8 ≤ s.line.queue.length) :
    offerFrame f s =
      recordFailure { reason := .queueFull, kind := f.kind, dest := f.dest, codeTag := answerCodeTag f } s := by
  rw [← failureOf_eq]
  simp [offerFrame, offerMarked, h, queueHasRoom_of_le hr]

theorem offerBeacon_rewrites {p : List Byte} {s : State} {i : Nat} {q : QueuedFrame} (h : s.line.state = .active)
    (hb : beaconPlace s.line.queue = some i) (hq : s.line.queue[i]? = some q) (ha : s.line.attempt ≠ some i) :
    offerBeacon p s = s.withLine { s.line with queue := s.line.queue.set i (rewritten p q) } := by
  rw [offerBeacon, if_pos h, hb]
  dsimp only
  rw [if_neg ha, modify_of_getElem? _ hq]

theorem offerBeacon_waits {p : List Byte} {s : State} {i : Nat} (h : s.line.state = .active)
    (hb : beaconPlace s.line.queue = some i) (ha : s.line.attempt = some i) :
    offerBeacon p s = s.withLine { s.line with heldUpdate := some p } := by
  rw [offerBeacon, if_pos h, hb]
  exact if_pos ha

theorem offerBeacon_joins {p : List Byte} {s : State} (h : s.line.state = .active)
    (hb : ∀ q ∈ s.line.queue, q.frame.kind ≠ .beacon) (hr : s.line.queue.length < 8) :
    offerBeacon p s = s.withLine
      { s.line with queue := s.line.queue ++ [{ frame := beaconFrame s p, attempts := 0, forRestart := false }] } := by
  rw [offerBeacon, if_pos h, beaconPlace_absent hb]
  exact if_pos (queueHasRoom_of_lt hr)

theorem offerBeacon_dropped {p : List Byte} {s : State} (hb : ∀ q ∈ s.line.queue, q.frame.kind ≠ .beacon)
    (hr : 8 ≤ s.line.queue.length) : offerBeacon p s = s := by
  simp [offerBeacon, beaconPlace_absent hb, queueHasRoom_of_le hr]

/-- Settles O8. -/
theorem queueTakesOfferedFrames : Obligations.QueueTakesOfferedFrames := by
  refine ⟨fun f s => ⟨offerFrame_inactive, offerFrame_joins, offerFrame_refused⟩,
    fun r s => ⟨fun old h => recordFailure_overflow h, recordFailure_first⟩, fun p s ha =>
    ⟨fun i q hq hk hl => ?_, fun hb hr => offerBeacon_joins ha hb hr, fun hb hr => offerBeacon_dropped hb hr⟩⟩
  have hplace := beaconPlace_first hq hk hl
  exact ⟨offerBeacon_rewrites ha hplace hq, offerBeacon_waits ha hplace⟩

/-! ## Commands that change the line alone -/

/-- A command whose effect is a state that leaves everything that may be followed answers that state. -/
theorem command_next {f : State → State} {s u : State} (hr : s.released = true) (e : f s = u)
    (hd : u.dutySources = s.dutySources) (hb : u.beaconNow = s.beaconNow) (hl : u.store.list = s.store.list) :
    command f s = .next u := by
  subst e
  exact command_quiet hr hd hb hl

/-- A command that changes the line but for its state is followed by nothing. -/
theorem command_line {f : State → State} {s : State} {x : Line} (hr : s.released = true) (e : f s = s.withLine x)
    (hs : x.state = s.line.state) : command f s = .next (s.withLine x) :=
  command_next hr e (dutySources_congr rfl rfl rfl rfl rfl hs rfl) (beaconNow_congr rfl rfl rfl rfl rfl rfl rfl rfl) rfl

theorem command_congr {f g : State → State} {s : State} (h : f s = g s) : command f s = command g s := by
  simp only [command, h]

/-! ## Contention -/

theorem choosePlace_first {queue : List QueuedFrame} {i : Nat} {q : QueuedFrame} (hq : queue[i]? = some q)
    (hmin : ∀ r ∈ queue, q.frame.cls.toNat ≤ r.frame.cls.toNat)
    (hfirst : ∀ j r, j < i → queue[j]? = some r → q.frame.cls.toNat < r.frame.cls.toNat) :
    choosePlace queue = some i := by
  refine findIdx?_first hq (by simpa using hmin) fun j r hj hr => ?_
  rw [List.all_eq_false]
  exact ⟨q, List.mem_of_getElem? hq, by simpa using hfirst j r hj hr⟩

theorem contend_eq {rival : List Byte} {i : Nat} {q : QueuedFrame} {s : State} (hs : s.line.state = .active)
    (ha : s.line.attempt = none) (hk : s.line.skipping = false) (hp : choosePlace s.line.queue = some i)
    (hq : s.line.queue[i]? = some q) :
    contend rival s =
      if defeats rival q.frame then receive rival s else s.withLine { s.line with attempt := some i } := by
  simp only [contend, hs, ha, hk, hp, hq, and_self, if_true]

theorem defeats_iff (rival : List Byte) (f : Frame) :
    defeats rival f = true ↔ ∃ k, rival.head? = some k ∧ k.toNat < f.arbitrationByte.toNat := by
  cases rival <;> simp [defeats]

/-- Settles O6. -/
theorem arbitrationChoosesAndDecides : Obligations.ArbitrationChoosesAndDecides := by
  intro rival i q s hr hs ha hk hq hmin hfirst
  have hc := contend_eq (rival := rival) hs ha hk (choosePlace_first hq hmin hfirst) hq
  refine ⟨fun h => command_line hr (hc.trans (if_neg ?_)) rfl,
    fun h => command_congr (hc.trans (if_pos ((defeats_iff rival q.frame).2 h)))⟩
  rw [defeats_iff]
  rintro ⟨k, hhead, hlt⟩
  exact absurd (h k hhead) (Nat.not_le.2 hlt)

/-! ## The end of an attempt -/

theorem attemptSends_eq {i : Nat} {s : State} (h : s.line.attempt = some i) :
    attemptSends s = offerHeld s.line.heldUpdate (withoutFrame i s) := by simp only [attemptSends, h]

theorem attemptFails_again {i : Nat} {q : QueuedFrame} {s : State} (h : s.line.attempt = some i)
    (hq : s.line.queue[i]? = some q) (hn : q.attempts < 3) :
    attemptFails s = s.withLine
      { s.line with
        queue := s.line.queue.set i (retried s.line.heldUpdate q), attempt := none, heldUpdate := none } := by
  have hmax : ¬ Config.maxRetries ≤ q.attempts := Nat.not_le.2 hn
  simp only [attemptFails, h, hq, hmax, if_false, modify_of_getElem? _ hq]

theorem attemptFails_last {i : Nat} {q : QueuedFrame} {s : State} (h : s.line.attempt = some i)
    (hq : s.line.queue[i]? = some q) (hn : 3 ≤ q.attempts) :
    attemptFails s =
      offerHeld s.line.heldUpdate (recordFailure (failureOf .lineFault q.frame) (withoutFrame i s)) := by
  have hmax : Config.maxRetries ≤ q.attempts := hn
  simp only [attemptFails, h, hq, hmax, if_true]

theorem retried_eq (held : Option (List Byte)) (q : QueuedFrame) :
    retried held q =
      { q with attempts := q.attempts + 1, frame := { q.frame with payload := held.getD q.frame.payload } } := by
  cases held <;> rfl

/-- Settles O7. -/
theorem attemptsEndInThreeWays : Obligations.AttemptsEndInThreeWays := by
  refine ⟨fun i s hr ha hi => ⟨fun hheld => ?_, fun p hheld hs hlen hb => ?_⟩, fun i q s hr ha hq hn => ?_,
    fun i q s hr ha hq hn => ?_⟩
  · refine command_line hr ?_ rfl
    rw [attemptSends_eq ha, hheld]
    simp [offerHeld, withoutFrame, hheld]
  · refine command_line hr ?_ rfl
    have hroom : (withoutFrame i s).line.queue.length < 8 := by
      simp only [withoutFrame, State.withLine_line, List.length_eraseIdx, hi, if_true]
      omega
    rw [attemptSends_eq ha, hheld]
    exact offerBeacon_joins (s := withoutFrame i s) hs hb hroom
  · refine command_line hr ?_ rfl
    rw [attemptFails_again ha hq hn, retried_eq]
  · have hlast := attemptFails_last ha hq hn
    rw [failureOf_eq] at hlast
    refine ⟨fun hheld => effects_of_command hr rfl (hlast.trans ?_),
      fun p hheld => effects_of_command hr rfl (hlast.trans ?_)⟩
    · rw [hheld]
      rfl
    · rw [hheld]
      rfl

/-! ## The station's own beacon -/

theorem sourceOk_iff (a : BitVec 5) : sourceOk a = true ↔ a ≠ 0 ∧ a ≠ 31 := by simp [sourceOk]

/-- The state at the end of LISTEN: ACTIVE, with the beacon queued and recorded (R5, R23). -/
def beaconing (s : State) : State :=
  (s.withLine
      { s.line with
        state := .active
        queue := [{ frame := beaconFrame s s.beaconNow, attempts := 0, forRestart := false }] }).withPeers
    { s.peers with image := some s.beaconNow, beaconTimer := some (s.now + 2000) }

theorem listenEnds_beaconing {s : State} (hs : s.line.state = .listen) (ha : sourceOk s.line.address = true)
    (hq : s.line.queue = []) : listenEnds s = beaconing s := by
  have hb : ((s.withLine { s.line with state := .active }).withPeers
      { s.peers with beaconTimer := some (s.now + Config.beaconPeriod) }).beaconNow = s.beaconNow :=
    beaconNow_congr rfl rfl rfl rfl rfl rfl rfl rfl
  rw [listenEnds, if_pos ⟨hs, ha⟩]
  dsimp only
  rw [offerOwnBeacon, State.withLine_peers, hb, offerBeacon_joins rfl (by simp [hq]) (by simp [hq])]
  simp only [State.withPeers_line, State.withLine_line, hq]
  rfl

theorem listenEnds_same {s : State} (h : s.line.state ≠ .listen ∨ s.line.address = 0 ∨ s.line.address = 31) :
    listenEnds s = s := by
  rw [listenEnds, if_neg]
  rintro ⟨hs, ha⟩
  obtain ⟨h0, h31⟩ := (sourceOk_iff _).1 ha
  rcases h with h | h | h
  · exact h hs
  · exact h0 h
  · exact h31 h

theorem periodEnds_same {s : State} (h : s.line.state ≠ .active ∨ s.peers.beaconTimer = none) : periodEnds s = s := by
  rw [periodEnds, if_neg]
  rintro ⟨hs, ht⟩
  rcases h with h | h
  · exact h hs
  · rw [h] at ht
    cases ht

/-- The offered beacon of a station become ACTIVE is the one queued, whatever follows in the event. -/
theorem beaconing_followed {s t : State} (ha : s.line.attempt = none) (h : Followed s (beaconing s) t) :
    t.line = { s.line with
        state := .active, queue := [{ frame := beaconFrame s t.beaconNow, attempts := 0, forRestart := false }] } ∧
      t.peers = { s.peers with image := some t.beaconNow, beaconTimer := some (s.now + 2000) } := by
  by_cases hw : watchOffers s (beaconing s) t
  · obtain ⟨hline, hpeers⟩ := h.offered hw
    refine ⟨?_, hpeers⟩
    rw [hline, offerBeacon_rewrites (i := 0) rfl rfl rfl (by simp [beaconing, ha])]
    rfl
  · obtain ⟨hline, hpeers⟩ := h.quietLine hw
    have hb : t.beaconNow = s.beaconNow := by
      by_contra hb
      refine hw ⟨rfl, hb, fun hi => hb (Option.some.inj hi).symm⟩
    rw [hb]
    exact ⟨hline, hpeers⟩

/-- What follows a command leaves the wear record (R66, R79). -/
theorem Followed.wearRecord {before u t : State} (h : Followed before u t) : t.wear.record = u.wear.record := by
  rcases h.wear with e | ⟨-, -, e⟩ <;> rw [e]

/-- Settles O5. -/
theorem beaconingBeginsAndRepeats : Obligations.BeaconingBeginsAndRepeats := by
  refine ⟨fun s hr hs h0 h31 hq ha => ?_, fun s h => command_same (listenEnds_same h), fun s hr hs ht => ?_,
    fun s h => command_same (periodEnds_same h)⟩
  · obtain ⟨t, ht, hf⟩ := effects_of_command (c := .listenEnd) hr rfl
      (listenEnds_beaconing hs ((sourceOk_iff _).2 ⟨h0, h31⟩) hq)
    obtain ⟨hline, hpeers⟩ := beaconing_followed ha hf
    exact ⟨t, ht, hf, by rw [hline], by rw [hline], hpeers, by rw [hline], by rw [hline], by rw [hline], hf.router,
      hf.geometry, hf.lockout, hf.schedule, hf.conditions, hf.wearRecord, hf.refusedTimer⟩
  · have hb : (s.withPeers { s.peers with beaconTimer := some (s.now + Config.beaconPeriod) }).beaconNow = s.beaconNow :=
      beaconNow_congr rfl rfl rfl rfl rfl rfl rfl rfl
    refine command_next hr ?_ (dutySources_congr ?_ ?_ ?_ ?_ ?_ ?_ ?_) (beaconNow_congr ?_ ?_ ?_ ?_ ?_ ?_ ?_ ?_) ?_
    · rw [periodEnds, if_pos ⟨hs, Option.isSome_iff_ne_none.2 ht⟩, offerOwnBeacon, hb]
      rfl
    case refine_7 => exact (offerBeacon_signals _ _).state
    all_goals simp

end Sys2Proof.Machine
end

section
/-! The statements about discarded frames and CLASH (R7, R8, R18 to R20). -/

namespace Sys2Proof.Machine

/-! ## Discarded frames -/

theorem receive_overlong {bytes : List Byte} {s : State} (hs : s.line.skipping = false) (h : readFrame bytes = .overlong) :
    receive bytes s = s.withLine { s.line with skipping := true } := by simp [receive, hs, h]

theorem receive_bad {bytes : List Byte} {s : State} (h : s.line.skipping = true ∨ readFrame bytes = .bad) :
    receive bytes s = s := by
  rcases h with h | h <;> simp [receive, h]

theorem receive_takes_nothing {bytes : List Byte} {f : Frame} {s : State} (hf : readFrame bytes = .frame f)
    (h : takeFrame f s = s) : receive bytes s = s := by
  simp [receive, hf, h]

theorem takeFrame_undelivered {f : Frame} {s : State} (ho : f.source ≠ s.line.address)
    (h : lengthSuits f.kind f.payload = false ∨ f.kind = .answer ∨ f.kind = .notice) : takeFrame f s = s := by
  rcases h with h | h | h
  · exact takeFrame_unsuited ho h
  · simp [takeFrame, ho, deliver, h]
  · simp [takeFrame, ho, deliver, h]

theorem lengthSuits_iff (kind : FrameKind) (payload : List Byte) :
    lengthSuits kind payload = true ↔
      (match kind with
        | .beacon => 1 ≤ payload.length ∧ payload.length ≤ 24 ∧ (payload.head? = some 1 → payload.length = 14)
        | .order => 2 ≤ payload.length ∧ payload.length ≤ 24
        | .answer => 3 ≤ payload.length ∧ payload.length ≤ 23
        | .clock => payload.length = 4
        | .notice => payload.length = 3
        | .cue => payload.length = 2) := by
  cases kind with
  | beacon =>
    simp only [lengthSuits, Bool.and_eq_true, Bool.or_eq_true, decide_eq_true_eq, bne_iff_ne, beq_iff_eq, and_assoc]
    rw [← Decidable.imp_iff_not_or]
  | order => exact decide_eq_true_iff
  | answer => exact decide_eq_true_iff
  | clock => exact beq_iff_eq
  | notice => exact beq_iff_eq
  | cue => exact beq_iff_eq

/-- Settles O9. -/
theorem discardedFramesChangeNothing : Obligations.DiscardedFramesChangeNothing := by
  refine ⟨fun bytes s hr hs h => command_line hr (receive_overlong hs h) rfl,
    fun bytes s h => command_same (receive_bad h), fun bytes f s hf ho h => ?_, lengthSuits_iff,
    fun s hr => command_line hr rfl rfl⟩
  exact command_same (receive_takes_nothing hf (takeFrame_undelivered ho h))

/-! ## Entering CLASH -/

/-- The station entered CLASH (R8, R25). -/
def clashed (s : State) : State :=
  (s.withLine { s.line with state := .clash, queue := [], attempt := none, heldUpdate := none }).withPeers
    { s.peers with beaconTimer := none }

theorem enterClash_enters {s : State} (h : s.line.state ≠ .clash) : enterClash s = clashed s := if_neg h

theorem enterClash_again {s : State} (h : s.line.state = .clash) : enterClash s = s := if_pos h

/-- The command enters CLASH, or changes nothing in CLASH. -/
def Clashes (c : Instr) (s : State) : Prop :=
  (s.line.state ≠ .clash →
    ∃ t, exec c s = .next t ∧ Followed s (clashed s) t ∧ t.line = (clashed s).line ∧ t.peers = (clashed s).peers) ∧
  (s.line.state = .clash → exec c s = .next s)

/-- In CLASH the watch offers nothing, so what follows leaves line and peers. -/
theorem clashes_of {c : Instr} {f : State → State} {s : State} (hr : s.released = true) (hc : exec c s = command f s)
    (hf : f s = enterClash s) : Clashes c s := by
  refine ⟨fun hs => ?_, fun hs => hc.trans (command_same (hf.trans (enterClash_again hs)))⟩
  obtain ⟨t, ht, hfol⟩ := effects_of_command hr hc (hf.trans (enterClash_enters hs))
  obtain ⟨hline, hpeers⟩ := hfol.quietLine fun hw => by cases hw.1
  exact ⟨t, ht, hfol, hline, hpeers⟩

theorem receive_own {bytes : List Byte} {f : Frame} {s : State} (hs : s.line.skipping = false)
    (hf : readFrame bytes = .frame f) (ho : f.source = s.line.address) : receive bytes s = enterClash s := by
  rw [receive_frame hs hf, takeFrame, if_pos ho]

theorem receiveOrder_own {code : Byte} {o : OrderFrame} {s : State} (hs : s.line.skipping = false)
    (hso : sourceOk o.source = true) (hd : destOk o.dest = true) (ho : o.source = s.line.address) :
    receiveOrder code o s = enterClash s := by
  rw [receiveOrder, hs, hso, hd, if_pos ho]
  rfl

/-! ## Staying in CLASH -/

/-- The station is in CLASH (R8). -/
def InClash (s : State) : Prop := s.line.state = .clash

theorem InClash.signals {s u : State} (h : InClash s) (hu : Signals s u) : InClash u := hu.state.trans h

theorem InClash.line {s u : State} (h : InClash s) (hu : u.line.state = s.line.state) : InClash u := hu.trans h

theorem InClash.change {u v : State} (h : Change u v) (hp : InClash u) : InClash v := by
  cases h with
  | offer f m => exact hp.signals (offerMarked_signals f m u)
  | latch c d => exact hp.line (latch_line_kept c d u).1
  | fault c d => exact hp.line (by simpa using (latch_line_kept c d u).1)
  | clear c => exact hp.line (clearCondition_line_kept c u).1
  | clash => rwa [enterClash_again hp]
  | sends => exact hp.signals (attemptSends_signals u)
  | fails => exact hp.signals (attemptFails_signals u)
  | _ => exact hp.line (by simp)

theorem inClash_kept : RunKept InClash where
  change := InClash.change
  memory {u v} h hp := by
    cases h with
    | commit => exact hp.line (by simp)
    | writeEnds => exact hp
  duty {u v} h hp := by
    obtain ⟨x, rfl | ⟨-, -, rfl⟩ | ⟨-, -, rfl⟩⟩ := dutyChange_cases h <;> exact hp.line (by simp)
  write {u} hp := hp.line (by simp)
  beacon {u} hp := hp.line (offerOwnBeacon_signals u).state
  listen {u} hp := by rwa [listenEnds_same (.inl (by rw [hp]; decide))]
  period {u} hp := by rwa [periodEnds_same (.inl (by rw [hp]; decide))]

/-- Settles O10. -/
theorem clashIsEnteredAndKept : Obligations.ClashIsEnteredAndKept := by
  refine ⟨fun bytes f s hr hs hf ho => ?_, fun i kind code o s hi hr hs hso hd ho => ?_,
    fun c s t hs h1 h2 h3 h4 ht => ?_, fun s t hs hp ht => ?_⟩
  · have hown := receive_own hs hf ho
    exact ⟨clashes_of hr rfl hown, clashes_of hr rfl hown, clashes_of hr rfl hown, clashes_of hr rfl hown⟩
  · rcases hi with hi | rfl
    · exact clashes_of hr (exec_order hi s) (receiveOrder_own hs hso hd ho)
    · exact clashes_of hr (exec_unknownOrder code o s) (receiveOrder_own hs hso hd ho)
  · refine inClash_kept.runs (exec_runs ht ?_) hs
    rintro (h | h | h | ⟨hr, a, r, h⟩)
    · exact h1 h
    · exact h2 h
    · exact h3 h
    · rw [h4 a r h] at hr
      cases hr
  · rw [step_of_empty hp] at ht
    cases ht
    unfold idle
    split
    · exact hs
    · exact hs

end Sys2Proof.Machine
end

section
/-! The statements about the peer table and the latching of conditions (R27 to R31, R174, R175). -/

namespace Sys2Proof.Machine

/-! ## The peer table searched -/

theorem peerPosition_only {p : Peers} {a : BitVec 5} {i : Fin 15} {r : PeerRecord} (h : p.table[i] = some r)
    (hr : r.address = a) (hu : ∀ (j : Fin 15) q, p.table[j] = some q → q.address = a → j = i) :
    p.positionOf a = some i := by
  refine find_only (by simp only [h, hr, beq_self_eq_true]) fun j hj => ?_
  cases hx : p.table[j] with
  | none => simp only [hx] at hj; cases hj
  | some x => exact hu j x hx (by simpa only [hx, beq_iff_eq] using hj)

theorem peerPosition_absent {p : Peers} {a : BitVec 5} (h : ∀ (j : Fin 15) q, p.table[j] = some q → q.address ≠ a) :
    p.positionOf a = none := by
  rw [Peers.positionOf, List.find?_eq_none]
  intro j _
  cases hx : p.table[j] with
  | none => simp
  | some x => simpa using h j x hx

theorem peerEmpty_lowest {p : Peers} {i : Fin 15} (h : p.table[i] = none)
    (hl : ∀ j : Fin 15, j < i → p.table[j] ≠ none) : p.emptyPosition = some i :=
  find_lowest (by simp only [h, Option.isNone_none]) fun j hj => by
    cases hx : p.table[j] with
    | none => exact absurd hx (hl j hj)
    | some x => rfl

theorem peerEmpty_none {p : Peers} (h : ∀ j : Fin 15, p.table[j] ≠ none) : p.emptyPosition = none := by
  rw [Peers.emptyPosition, List.find?_eq_none]
  intro j _
  simpa using h j

/-! ## Beacons taken and records removed -/

theorem takeBeacon_at {a : BitVec 5} {b : Beacon} {i : Fin 15} {s : State} (h : s.peers.positionOf a = some i) :
    takeBeacon a b s = putPeer i (some { address := a, beacon := b, heardAt := s.now }) s := by
  simp only [takeBeacon, h]

theorem takeBeacon_new {a : BitVec 5} {b : Beacon} {i : Fin 15} {s : State} (h : s.peers.positionOf a = none)
    (hi : s.peers.emptyPosition = some i) :
    takeBeacon a b s = putPeer i (some { address := a, beacon := b, heardAt := s.now }) s := by
  simp only [takeBeacon, h, hi]

theorem takeBeacon_full {a : BitVec 5} {b : Beacon} {s : State} (h : s.peers.positionOf a = none)
    (hn : s.peers.emptyPosition = none) : takeBeacon a b s = latch .peerTableFull a.toNat s := by
  simp only [takeBeacon, h, hn]

theorem agePeer_at {a : BitVec 5} {i : Fin 15} {r : PeerRecord} {s : State} (h : s.peers.positionOf a = some i)
    (hr : s.peers.table[i] = some r) :
    agePeer a s = if r.heardAt + 7000 ≤ s.now then putPeer i none s else s := by
  simp only [agePeer, h, hr, Option.any_some]
  exact if_congr decide_eq_true_iff rfl rfl

theorem agePeer_absent {a : BitVec 5} {s : State} (h : s.peers.positionOf a = none) : agePeer a s = s := by
  simp only [agePeer, h]

theorem deliver_beacon_accepted {f : Frame} {b : Beacon} (s : State) (hk : f.kind = .beacon)
    (hp : parseBeacon f.payload = some b) : deliver f s = takeBeacon f.source b s := by
  simp only [deliver, hk, hp]

theorem deliver_beacon_refused {f : Frame} (s : State) (hk : f.kind = .beacon) (hp : parseBeacon f.payload = none) :
    deliver f s = s := by
  simp only [deliver, hk, hp]

/-! ## What a beacon's payload may be -/

theorem numberOf_three (a b c : Byte) : numberOf [a, b, c] = a.toNat * 65536 + b.toNat * 256 + c.toNat := by
  simp [numberOf]
  omega

theorem lampOfCode_none (n : Nat) : lampOfCode n = none ↔ 5 < n := by
  match n with
  | 0 | 1 | 2 | 3 | 4 | 5 => decide
  | n + 6 => simp [lampOfCode]

theorem modeOfCode_none (n : Nat) : modeOfCode n = none ↔ 2 < n := by
  match n with
  | 0 | 1 | 2 => decide
  | n + 3 => simp [modeOfCode]

theorem causeOfCode_none (n : Nat) : causeOfCode n = none ↔ 3 < n := by
  match n with
  | 0 | 1 | 2 | 3 => decide
  | n + 4 => simp [causeOfCode]

theorem parseBeacon_none
    (role lamp mode cause offer flags k2 k1 k0 source level c1 c0 membership : Byte) :
    parseBeacon [role, lamp, mode, cause, offer, flags, k2, k1, k0, source, level, c1, c0, membership] = none ↔
      role ≠ 1 ∨ 5 < lamp.toNat ∨ 2 < mode.toNat ∨ 3 < cause.toNat ∨ (7 < offer.toNat ∧ offer ≠ 255) ∨
        200000 < k2.toNat * 65536 + k1.toNat * 256 + k0.toNat ∨ 63 < source.toNat ∨ 7 < level.toNat := by
  rw [← lampOfCode_none, ← modeOfCode_none, ← causeOfCode_none, ← numberOf_three]
  simp only [parseBeacon]
  cases lampOfCode lamp.toNat with
  | none => simp
  | some l =>
    cases modeOfCode mode.toNat with
    | none => simp
    | some m =>
      cases causeOfCode cause.toNat with
      | none => simp
      | some c =>
        simp only [ite_eq_right_iff, reduceCtorEq, imp_false, false_or, not_and_or, not_or, Nat.not_le, ne_eq]

theorem parseBeacon_length {payload : List Byte} (h : payload.length ≠ 14) : parseBeacon payload = none := by
  unfold parseBeacon
  split
  · exact absurd rfl h
  · rfl

/-- Settles O11. -/
theorem peerTableFollowsBeacons : Obligations.PeerTableFollowsBeacons := by
  refine ⟨fun bytes f b s hr hs hf ho hk hlen hp => ?_, fun bytes f s hf ho hk h => ?_, parseBeacon_none,
    fun payload h => parseBeacon_length h, fun a i r s hr hi ha hu => ?_,
    fun a s h => command_same (agePeer_absent (peerPosition_absent h))⟩
  · have htake : receive bytes s = takeBeacon f.source b s := by
      rw [receive_frame hs hf, takeFrame_other ho hlen, deliver_beacon_accepted s hk hp]
    refine ⟨fun i old hi hold hu => ?_, fun i hi hl hn => ?_, fun hfull => ?_⟩
    · exact effects_of_command hr rfl (htake.trans (takeBeacon_at (peerPosition_only hi hold hu)))
    · exact effects_of_command hr rfl (htake.trans (takeBeacon_new (peerPosition_absent hn) (peerEmpty_lowest hi hl)))
    · have hnew : s.peers.positionOf f.source = none := peerPosition_absent fun j q hq => by
        obtain ⟨r, hr, hne⟩ := hfull j
        rw [hr] at hq
        exact Option.some.inj hq ▸ hne
      have hno : s.peers.emptyPosition = none := peerEmpty_none fun j hj => by
        obtain ⟨r, hr, -⟩ := hfull j
        rw [hr] at hj
        cases hj
      exact effects_of_command hr rfl (htake.trans (takeBeacon_full hnew hno))
  · refine command_same (receive_takes_nothing hf ?_)
    cases hlen : lengthSuits f.kind f.payload with
    | false => exact takeFrame_unsuited ho hlen
    | true =>
      rcases h with h | h
      · rw [h] at hlen
        cases hlen
      · rw [takeFrame_other ho hlen, deliver_beacon_refused s hk h]
  · have hage := agePeer_at (peerPosition_only hi ha hu) hi
    refine ⟨fun h => effects_of_command hr rfl (hage.trans (if_pos h)), fun h => ?_⟩
    exact command_same (hage.trans (if_neg (Nat.not_le.2 h)))

/-! ## Latching -/

/-- A latched TRANSMIT FAILED is left so by a recorded failure. -/
theorem recordFailure_latched {s : State} (r : FailureRecord) (h : s.latched .transmitFailed = true) :
    (recordFailure r s).conditions = s.conditions := by
  unfold recordFailure
  split
  · rfl
  · rw [if_pos h]
    rfl

/-- An offered frame clears no condition. -/
theorem offerMarked_latched {c : Condition} {f : Frame} {m : Bool} {s : State} (h : s.latched c = true) :
    (offerMarked f m s).latched c = true := by
  by_cases hc : c = .transmitFailed
  · subst hc
    unfold offerMarked
    split
    · split
      · exact h
      · rw [State.latched, recordFailure_latched _ h]
        exact h
    · exact h
  · rw [(offerMarked_signals f m s).latched c hc, h]

theorem latch_eq {c : Condition} {detail : Nat} {s : State} (h : s.latched c = false) :
    latch c detail s =
      if s.store.settings.noticeMask.getLsbD (categoryBit (conditionCategory c)) then
        offerFrame
          { cls := if c = .thermalTrip then 0 else 1
            source := s.line.address
            dest := 0x80
            kind := .notice
            authority := 0
            payload := [byteOf (conditionCode c), byteOf (detail / 256), byteOf detail] }
          (s.withConditions (s.conditions ||| conditionBit c))
      else s.withConditions (s.conditions ||| conditionBit c) := by
  rw [latch, if_neg (by rw [h]; decide), noticeFrame, noticePayload, bytesOf_two]
  rfl

/-- Settles O12. -/
theorem conditionLatchesOnce : Obligations.ConditionLatchesOnce := by
  intro c detail s
  refine ⟨fun h => if_pos h, fun h => ⟨?_, fun d hd => ?_, latch_eq h⟩⟩
  · have hbit : (s.withConditions (s.conditions ||| conditionBit c)).latched c = true := by
      rw [latched_or]
      simp
    rw [latch_eq h]
    split
    · exact offerMarked_latched hbit
    · exact hbit
  · rw [latched_or, decide_eq_false hd, Bool.or_false]

end Sys2Proof.Machine
end

section
/-! The statement that frames and beacons survive their bytes (R1, R2, R18, R19, R27). -/

namespace Sys2Proof.Machine

/-! ## Numbers and their bytes -/

theorem byteOf_toNat_mod (n : Nat) : (byteOf n).toNat = n % 256 := by rw [byteOf, BitVec.toNat_ofNat]

theorem numberOf_bytesOf_two {n : Nat} (h : n < 65536) : numberOf (bytesOf 2 n) = n := by
  rw [bytesOf_two, numberOf_two, byteOf_toNat_mod, byteOf_toNat_mod]
  omega

theorem bytesOf_three (n : Nat) : bytesOf 3 n = [byteOf (n / 65536), byteOf (n / 256), byteOf n] := by simp [bytesOf]

theorem numberOf_bytesOf_three {n : Nat} (h : n < 16777216) : numberOf (bytesOf 3 n) = n := by
  rw [bytesOf_three, numberOf_three, byteOf_toNat_mod, byteOf_toNat_mod, byteOf_toNat_mod]
  omega

theorem byteOf_byte (b : Byte) : byteOf b.toNat = b := BitVec.ofNat_toNat .. |>.trans (BitVec.setWidth_eq b)

/-- Two bytes are those of the number they carry. -/
theorem bytesOf_numberOf_two (a b : Byte) : bytesOf 2 (numberOf [a, b]) = [a, b] := by
  have hb := b.isLt
  have hd : (a.toNat * 256 + b.toNat) / 256 = a.toNat := by omega
  rw [bytesOf_two, numberOf_two, hd, byteOf_low, byteOf_byte, byteOf_byte]

/-- Two bytes joined are the number they carry. -/
theorem append_toNat (a b : Byte) : (a ++ b : BitVec 16).toNat = numberOf [a, b] := by
  have hb := b.isLt
  rw [BitVec.toNat_append, ← Nat.shiftLeft_add_eq_or_of_lt hb, Nat.shiftLeft_eq, numberOf_two]

/-! ## The header's fields -/

theorem arbitration_fields : ∀ (cls : BitVec 2) (source : BitVec 5),
    (cls ++ 0#1 ++ source : BitVec 8).extractLsb' 6 2 = cls ∧
      (cls ++ 0#1 ++ source : BitVec 8).extractLsb' 0 5 = source ∧
        (cls ++ 0#1 ++ source : BitVec 8).getLsbD 5 = false := by decide

theorem kindByte_fields : ∀ (code : BitVec 4) (authority : BitVec 3),
    (code ++ 0#1 ++ authority : BitVec 8).extractLsb' 4 4 = code ∧
      (code ++ 0#1 ++ authority : BitVec 8).extractLsb' 0 3 = authority ∧
        (code ++ 0#1 ++ authority : BitVec 8).getLsbD 3 = false := by decide

theorem ofCode_code (kind : FrameKind) : FrameKind.ofCode kind.code = some kind := by cases kind <;> rfl

theorem readHeader_frame {f : Frame} (hs : sourceOk f.source = true) (hd : destOk f.dest = true) :
    readHeader f.arbitrationByte f.dest (f.kind.code ++ 0#1 ++ f.authority) f.payload = .frame f := by
  obtain ⟨hcls, hsource, hreserved⟩ := arbitration_fields f.cls f.source
  obtain ⟨hcode, hauthority, hbit⟩ := kindByte_fields f.kind.code f.authority
  simp only [readHeader, Frame.arbitrationByte, hcls, hsource, hreserved, hcode, hauthority, hbit, ofCode_code, hs, hd]
  rfl

/-! ## Whole frames -/

/-- What stands behind the body of a frame decides how it is read. -/
theorem readFrame_body (f : Frame) (rest : List Byte) (hl : f.payload.length ≤ 24) (hr : 2 ≤ rest.length) :
    readFrame (f.body ++ rest) =
      if numberOf (rest.take 2) = (frameCheck f.body).toNat then
        readHeader f.arbitrationByte f.dest (f.kind.code ++ 0#1 ++ f.authority) f.payload
      else .bad := by
  have hlen : (byteOf f.payload.length).toNat = f.payload.length := byteOf_toNat (by omega)
  have htake : (f.payload ++ rest).take f.payload.length = f.payload := by simp
  have hdrop : (f.payload ++ rest).drop f.payload.length = rest := by simp
  have hmax : ¬ f.payload.length > Config.maxPayload := Nat.not_lt.2 hl
  have hshort : ¬ (f.payload ++ rest).length < f.payload.length + 2 := by
    rw [List.length_append]
    omega
  simp only [Frame.body, List.cons_append, readFrame, hlen, hmax, hshort, if_false, htake, hdrop]
  rfl

theorem frame_bytes_length (f : Frame) : f.bytes.length = f.payload.length + 6 := by
  simp [Frame.bytes, Frame.body, bytesOf_two]

theorem frameCheck_lt (bytes : List Byte) : (frameCheck bytes).toNat < 65536 := (frameCheck bytes).isLt

theorem readFrame_bytes {f : Frame} (more : List Byte) (hs : sourceOk f.source = true) (hd : destOk f.dest = true)
    (hl : f.payload.length ≤ 24) : readFrame (f.bytes ++ more) = .frame f := by
  have htake : (bytesOf 2 (frameCheck f.body).toNat ++ more).take 2 = bytesOf 2 (frameCheck f.body).toNat := by
    simp [bytesOf_two]
  rw [Frame.bytes, List.append_assoc, readFrame_body f _ hl (by simp [bytesOf_two]), htake,
    if_pos (numberOf_bytesOf_two (frameCheck_lt _)), readHeader_frame hs hd]

theorem readFrame_wrong_check {f : Frame} {check : List Byte} (hl : f.payload.length ≤ 24) (hc : check.length = 2)
    (hne : check ≠ bytesOf 2 (frameCheck f.body).toNat) : readFrame (f.body ++ check) = .bad := by
  obtain ⟨a, b, rfl⟩ := List.length_eq_two.1 hc
  rw [readFrame_body f _ hl (Nat.le_of_eq hc.symm), if_neg]
  intro h
  refine hne ?_
  rw [← h]
  exact (bytesOf_numberOf_two a b).symm

/-! ## Beacons -/

theorem lampOfCode_byteOf (x : LampState) : lampOfCode (byteOf (lampCode x)).toNat = some x := by cases x <;> rfl

theorem causeOfCode_byteOf (x : LitCause) : causeOfCode (byteOf (causeCode x)).toNat = some x := by cases x <;> rfl

theorem byteOf_eq_255_iff {n : Nat} (h : n < 256) : byteOf n = 255 ↔ n = 255 := by
  rw [← BitVec.toNat_inj, byteOf_toNat h]
  rfl

/-- A number that may be absent, as its byte (1.10). -/
theorem topAbsent_byteOf {x : Option Nat} (h : ∀ n, x = some n → n < 255) :
    (if byteOf (topAbsent x) = 255 then none else some (byteOf (topAbsent x)).toNat) = x := by
  cases x with
  | none => rfl
  | some n =>
    have hn := h n rfl
    rw [topAbsent, Option.getD_some, byteOf_toNat (by omega), if_neg]
    rw [byteOf_eq_255_iff (by omega)]
    omega

theorem beaconFlags_bits (b : Beacon) :
    (beaconFlags b).getLsbD 0 = b.declined ∧ (beaconFlags b).getLsbD 1 = b.shown ∧
      (beaconFlags b).getLsbD 2 = b.clockValid := by
  unfold beaconFlags
  cases b.declined <;> cases b.shown <;> cases b.clockValid <;> decide

/-- The two bytes of the condition summary, its ignored bits 0. -/
theorem summary_bytes {x : BitVec 16} (h : x &&& 0xF800#16 = 0#16) :
    (byteOf (x.toNat / 256) ++ byteOf x.toNat : BitVec 16) &&& 0x07FF#16 = x := by
  have happend : (byteOf (x.toNat / 256) ++ byteOf x.toNat : BitVec 16) = x := by
    apply BitVec.eq_of_toNat_eq
    rw [append_toNat, ← bytesOf_two, numberOf_bytesOf_two x.isLt]
  rw [happend]
  have hsplit : x &&& 0xFFFF#16 = (x &&& 0xF800#16) ||| (x &&& 0x07FF#16) := by
    rw [← BitVec.and_or_distrib_left]
    rfl
  rw [h, BitVec.zero_or] at hsplit
  rw [← hsplit]
  exact BitVec.and_allOnes

theorem beaconBytes_eq (b : Beacon) :
    beaconBytes b =
      [1, byteOf (lampCode b.lamp), byteOf (modeCode b.mode), byteOf (causeCode b.cause), byteOf (topAbsent b.offer),
        beaconFlags b, byteOf (b.wearKey / 65536), byteOf (b.wearKey / 256), byteOf b.wearKey, byteOf b.source,
        byteOf b.level, byteOf (b.summary.toNat / 256), byteOf b.summary.toNat, b.membership] := by
  simp [beaconBytes, bytesOf_two, bytesOf_three]

theorem parseBeacon_beaconBytes {b : Beacon} (ho : ∀ g, b.offer = some g → g ≤ 7) (hw : b.wearKey ≤ 200000)
    (hs : b.source ≤ 63) (hl : b.level ≤ 7) (hsum : b.summary &&& 0xF800#16 = 0#16) :
    parseBeacon (beaconBytes b) = some b := by
  have hkey : numberOf [byteOf (b.wearKey / 65536), byteOf (b.wearKey / 256), byteOf b.wearKey] = b.wearKey := by
    rw [← bytesOf_three, numberOf_bytesOf_three (by omega)]
  have hsource : (byteOf b.source).toNat = b.source := byteOf_toNat (by omega)
  have hlevel : (byteOf b.level).toNat = b.level := byteOf_toNat (by omega)
  have hoffer := topAbsent_byteOf (x := b.offer) fun g hg => by have := ho g hg; omega
  have hrange : (byteOf (topAbsent b.offer)).toNat ≤ 7 ∨ byteOf (topAbsent b.offer) = 255 := by
    cases hg : b.offer with
    | none => exact .inr rfl
    | some g =>
      have := ho g hg
      refine .inl ?_
      rw [topAbsent, Option.getD_some, byteOf_toNat (by omega)]
      exact this
  obtain ⟨hdeclined, hshown, hvalid⟩ := beaconFlags_bits b
  simp only [beaconBytes_eq, parseBeacon, lampOfCode_byteOf, modeOfCode_byteOf, causeOfCode_byteOf, hkey, hsource,
    hlevel, hoffer, hdeclined, hshown, hvalid, summary_bytes hsum]
  rw [if_pos ⟨trivial, hrange, hw, hs, hl⟩]

/-- Settles O13. -/
theorem framesAndBeaconsRoundTrip : Obligations.FramesAndBeaconsRoundTrip := by
  refine ⟨fun f more check hs hd hl => ⟨rfl, frame_bytes_length f, readFrame_bytes more hs hd hl,
    readFrame_wrong_check hl⟩, fun b ho hw hs hl hsum => ⟨?_, parseBeacon_beaconBytes ho hw hs hl hsum⟩⟩
  rw [beaconBytes_eq]
  rfl

end Sys2Proof.Machine
end

section
/-! The statements about the minute tick and the room schedule (R137, R143, R147 to R155). -/

namespace Sys2Proof.Machine

/-! ## The minute tick -/

theorem filterMap_minutePassed {stack : List LockEntry} (h : ∀ e ∈ stack, e.minutes ≠ some 0) :
    stack.filterMap minutePassed =
      (stack.filter fun e => e.minutes != some 1).map fun e => { e with minutes := e.minutes.map fun n => n - 1 } := by
  induction stack with
  | nil => rfl
  | cons e stack ih =>
    have hstack := ih fun x hx => h x (List.mem_cons_of_mem _ hx)
    have he := h e List.mem_cons_self
    obtain ⟨level, holder, minutes⟩ := e
    rcases minutes with _ | _ | _ | n
    · simp [minutePassed, hstack]
    · exact absurd rfl he
    · simp [minutePassed, hstack]
    · simp [minutePassed, hstack]

theorem takeMinuteTick_due {s : State} (h : s.lockout.minuteDue = true) :
    takeMinuteTick s = s.withLockout
      { s.lockout with stack := s.lockout.stack.filterMap minutePassed, minuteDue := false } := if_pos h

/-- Settles O32. -/
theorem minuteTickLowersTheMinutes : Obligations.MinuteTickLowersTheMinutes := by
  refine ⟨fun s hr hdue hmin => effects_of_command hr rfl ?_, fun s h => command_same (if_neg (by rw [h]; decide))⟩
  rw [takeMinuteTick_due hdue, filterMap_minutePassed hmin]

/-! ## Writing and clearing entries -/

theorem takeEntryWrite_fin (slot : Fin 32) (e : Entry) (s : State) :
    takeEntryWrite slot e s = (writeSlot slot (some e) s, .done) := dif_pos slot.isLt

theorem entryAt_fin (u : Schedule) (slot : Fin 32) : u.entryAt slot = u.table[slot] := toList_getD_fin _ _

theorem takeEntryClear_held {slot : Fin 32} {s : State} (h : s.schedule.table[slot] ≠ none) :
    takeEntryClear slot s = (writeSlot slot none s, .done) := by
  obtain ⟨e, he⟩ := Option.ne_none_iff_exists'.1 h
  rw [takeEntryClear, dif_pos slot.isLt, entryAt_fin, he]

theorem takeEntryClear_empty {slot : Fin 32} {s : State} (h : s.schedule.table[slot] = none) :
    takeEntryClear slot s = (s, .done) := by
  rw [takeEntryClear, dif_pos slot.isLt, entryAt_fin, h]

theorem ownerTakes_entryWrite {t : Taken} {slot : Fin 32} {bytes : List Byte} {e : Entry} (s : State)
    (h : t.args = byteOf slot :: bytes) (he : parseEntry bytes = some e) :
    ownerTakes .entryWrite t s = plain (takeEntryWrite slot e s) := by
  simp only [ownerTakes, h, he, byteOf_toNat (show slot.val < 256 by omega)]

theorem ownerTakes_entryClear {t : Taken} {slot : Fin 32} (s : State) (h : t.args = [byteOf slot]) :
    ownerTakes .entryClear t s = plain (takeEntryClear slot s) := by
  simp only [ownerTakes, h, byteOf_toNat (show slot.val < 256 by omega)]

/-- Settles O33. -/
theorem entriesAreWrittenAndCleared : Obligations.EntriesAreWrittenAndCleared := by
  refine ⟨fun o slot e bytes s h ha he => ?_, fun o slot s h ha => ⟨fun hheld => ?_, fun hempty => ?_⟩⟩
  · exact effects_of_owner .entryWrite rfl h nofun nofun
      ((ownerTakes_entryWrite s ha he).trans (congrArg plain (takeEntryWrite_fin slot e s)))
  · exact effects_of_owner .entryClear rfl h nofun nofun
      ((ownerTakes_entryClear s ha).trans (congrArg plain (takeEntryClear_held hheld)))
  · exact effects_of_owner .entryClear rfl h nofun nofun
      ((ownerTakes_entryClear s ha).trans (congrArg plain (takeEntryClear_empty hempty)))

/-! ## The governing entry -/

/-- The entry `e` of `slot` precedes the entry `x` of slot `j` (R152). -/
def Precedes (slot : Nat) (e : Entry) (j : Nat) (x : Entry) : Prop :=
  x.start < e.start ∨ (x.start = e.start ∧ (e.group < x.group ∨ (e.group = x.group ∧ j < slot)))

theorem covers_iff (e : Entry) (x : Settings) (day minute : Nat) :
    e.covers x day minute = true ↔
      e.days.getLsbD day = true ∧ e.start ≤ minute ∧ minute < e.stop ∧ x.groups.getLsbD e.group = true := by
  simp [Entry.covers, Settings.member, and_assoc]

theorem beats_iff (new old : Entry) :
    new.beats old = true ↔ old.start < new.start ∨ (old.start = new.start ∧ new.group ≤ old.group) := by
  simp [Entry.beats]

theorem Precedes.of_beats {slot k j : Nat} {old new x : Entry} (h : Precedes slot old j x) (hb : new.beats old = true)
    (hj : j < k) : Precedes k new j x := by
  rw [beats_iff] at hb
  unfold Precedes at h ⊢
  omega

theorem precedes_of_beats {slot k : Nat} {old new : Entry} (hb : new.beats old = true) (hk : slot < k) :
    Precedes k new slot old := by
  rw [beats_iff] at hb
  unfold Precedes
  omega

theorem precedes_of_not_beats {slot k : Nat} {old new : Entry} (hb : ¬ new.beats old = true) :
    Precedes slot old k new := by
  rw [beats_iff] at hb
  unfold Precedes
  omega

/-- What the search has chosen among the slots seen: none where no entry covers the time, else one that precedes every
other that does. -/
def ChosenFrom (covers : Entry → Prop) (seen : List (Nat × Option Entry)) : Option (Nat × Entry) → Prop
  | none => ∀ j x, (j, some x) ∈ seen → ¬ covers x
  | some (slot, e) =>
    (slot, some e) ∈ seen ∧ covers e ∧
      ∀ j x, (j, some x) ∈ seen → covers x → (j = slot ∧ x = e) ∨ Precedes slot e j x

/-- A slot that offers no entry changes no choice. -/
theorem ChosenFrom.skip {covers : Entry → Prop} {seen : List (Nat × Option Entry)} {chosen : Option (Nat × Entry)}
    {k : Nat} {y : Option Entry} (h : ChosenFrom covers seen chosen) (hy : ∀ x, y = some x → ¬ covers x) :
    ChosenFrom covers (seen ++ [(k, y)]) chosen := by
  have old {j x} (hm : (j, some x) ∈ seen ++ [(k, y)]) (hc : covers x) : (j, some x) ∈ seen := by
    rcases List.mem_append.1 hm with hm | hm
    · exact hm
    · obtain ⟨-, hxy⟩ := Prod.mk.inj (List.mem_singleton.1 hm)
      exact absurd hc (hy x hxy.symm)
  cases chosen with
  | none => exact fun j x hm hc => h j x (old hm hc) hc
  | some p =>
    obtain ⟨hm, hc, hp⟩ := h
    exact ⟨List.mem_append_left _ hm, hc, fun j x hx hcx => hp j x (old hx hcx) hcx⟩

/-- The first entry that covers the time is chosen. -/
theorem ChosenFrom.first {covers : Entry → Prop} {seen : List (Nat × Option Entry)} {k : Nat} {y : Entry}
    (h : ChosenFrom covers seen none) (hy : covers y) : ChosenFrom covers (seen ++ [(k, some y)]) (some (k, y)) := by
  refine ⟨by simp, hy, fun j x hm hc => ?_⟩
  rcases List.mem_append.1 hm with hm | hm
  · exact absurd hc (h j x hm)
  · obtain ⟨rfl, hx⟩ := Prod.mk.inj (List.mem_singleton.1 hm)
    exact .inl ⟨rfl, Option.some.inj hx⟩

/-- Of the entry chosen and a later one that covers the time, the better is chosen. -/
theorem ChosenFrom.better {covers : Entry → Prop} {seen : List (Nat × Option Entry)} {slot k : Nat} {e y : Entry}
    (h : ChosenFrom covers seen (some (slot, e))) (hk : ∀ p ∈ seen, p.1 < k) (hy : covers y) :
    ChosenFrom covers (seen ++ [(k, some y)]) (if y.beats e then some (k, y) else some (slot, e)) := by
  obtain ⟨hm, hc, hp⟩ := h
  split
  · rename_i hb
    refine ⟨by simp, hy, fun j x hx hcx => ?_⟩
    rcases List.mem_append.1 hx with hx | hx
    · refine .inr ?_
      rcases hp j x hx hcx with ⟨rfl, rfl⟩ | hpre
      · exact precedes_of_beats hb (hk _ hm)
      · exact hpre.of_beats hb (hk _ hx)
    · obtain ⟨rfl, hxy⟩ := Prod.mk.inj (List.mem_singleton.1 hx)
      exact .inl ⟨rfl, Option.some.inj hxy⟩
  · rename_i hb
    refine ⟨List.mem_append_left _ hm, hc, fun j x hx hcx => ?_⟩
    rcases List.mem_append.1 hx with hx | hx
    · exact hp j x hx hcx
    · obtain ⟨rfl, hxy⟩ := Prod.mk.inj (List.mem_singleton.1 hx)
      cases hxy
      exact .inr (precedes_of_not_beats hb)

/-- The search over rising slots chooses as R152 says. -/
theorem chosenFrom_search (x : Settings) (day minute : Nat) (slots : List (Nat × Option Entry))
    (h : slots.Pairwise fun a b => a.1 < b.1) :
    ChosenFrom (fun e => e.covers x day minute = true) slots (slots.foldl (betterEntry x day minute) none) := by
  induction slots using List.reverseRecOn with
  | nil => exact fun j e hm => absurd hm List.not_mem_nil
  | append_singleton seen last ih =>
    rw [List.pairwise_append] at h
    obtain ⟨hseen, -, hlast⟩ := h
    have hold := ih hseen
    have hk : ∀ p ∈ seen, p.1 < last.1 := fun p hp => hlast p hp last (List.mem_singleton_self last)
    rw [List.foldl_append, List.foldl_cons, List.foldl_nil]
    generalize seen.foldl (betterEntry x day minute) none = chosen at hold
    obtain ⟨k, y⟩ := last
    cases y with
    | none => exact hold.skip nofun
    | some e =>
      by_cases hc : e.covers x day minute = true
      · cases chosen with
        | none =>
          simp only [betterEntry, hc, if_true]
          exact hold.first hc
        | some p =>
          simp only [betterEntry, hc, if_true]
          exact hold.better hk hc
      · simp only [betterEntry, hc]
        exact hold.skip fun z hz => Option.some.inj hz ▸ hc

theorem slots_rising (u : Schedule) : u.slots.Pairwise fun a b => a.1 < b.1 := by
  have h : (u.slots.map Prod.fst).Pairwise (· < ·) := by
    rw [Schedule.slots, List.map_fst_zip (by simp)]
    exact List.pairwise_lt_range
  exact List.pairwise_map.1 h

theorem mem_slots (u : Schedule) (j : Nat) (y : Option Entry) :
    (j, y) ∈ u.slots ↔ ∃ i : Fin 32, i.val = j ∧ u.table[i] = y := by
  rw [Schedule.slots, List.mem_iff_getElem]
  constructor
  · rintro ⟨n, hn, he⟩
    rw [List.getElem_zip, Prod.mk.injEq, List.getElem_range] at he
    have hn' : n < 32 := by simpa using hn
    exact ⟨⟨n, hn'⟩, he⟩
  · rintro ⟨i, rfl, he⟩
    refine ⟨i.val, by simp, ?_⟩
    rw [List.getElem_zip, List.getElem_range, Prod.mk.injEq]
    exact ⟨rfl, he⟩

theorem entryFound_chosen {s : State} (h : s.schedule.valid = true) :
    ChosenFrom (fun e => e.covers s.store.settings s.schedule.day s.schedule.minute = true) s.schedule.slots
      s.entryFound := by
  rw [State.entryFound, if_pos h]
  exact chosenFrom_search _ _ _ _ (slots_rising _)

theorem entryFound_invalid {s : State} (h : s.schedule.valid = false) : s.entryFound = none :=
  if_neg (by rw [h]; decide)

/-- Settles O34. -/
theorem governingEntryIsTheLatest : Obligations.GoverningEntryIsTheLatest := by
  intro s meets
  have hmeets (e : Entry) : e.covers s.store.settings s.schedule.day s.schedule.minute = true ↔ meets e :=
    covers_iff e _ _ _
  refine ⟨entryFound_invalid, fun hnone hv i e hi hm => ?_, fun slot e hsome => ?_⟩
  · have hch := entryFound_chosen hv
    rw [hnone] at hch
    exact hch i e ((mem_slots _ _ _).2 ⟨i, rfl, hi⟩) ((hmeets e).2 hm)
  · have hv : s.schedule.valid = true := by
      by_contra hv
      rw [entryFound_invalid (by simpa using hv)] at hsome
      cases hsome
    have hch := entryFound_chosen hv
    rw [hsome] at hch
    obtain ⟨hm, hc, hp⟩ := hch
    refine ⟨(hmeets e).1 hc, (mem_slots _ _ _).1 hm, fun j x hj hx hne => ?_⟩
    rcases hp j x ((mem_slots _ _ _).2 ⟨j, rfl, hj⟩) ((hmeets x).2 hx) with ⟨hjs, -⟩ | hpre
    · exact absurd hjs hne
    · exact hpre

/-! ## An evaluation of the schedule -/

theorem evaluateSchedule_stands {written : Option Nat} {s : State} {slot : Nat} {e : Entry}
    (h : s.entryFound = some (slot, e)) (hg : s.schedule.governing = some (slot, e.start)) (hw : written ≠ some slot) :
    evaluateSchedule written s = evaluate s := by
  rw [evaluateSchedule, h]
  exact if_pos ⟨hg, hw⟩

theorem evaluateSchedule_applies {written : Option Nat} {s : State} {slot : Nat} {e : Entry}
    (h : s.entryFound = some (slot, e)) (hg : s.schedule.governing ≠ some (slot, e.start) ∨ written = some slot) :
    evaluateSchedule written s = evaluate (applyEntry e (setGoverning (some (slot, e.start)) s)) := by
  rw [evaluateSchedule, h]
  refine if_neg ?_
  rintro ⟨hgov, hw⟩
  rcases hg with hg | hg
  · exact hg hgov
  · exact hw hg

theorem evaluateSchedule_none {written : Option Nat} {s : State} (h : s.entryFound = none)
    (hg : s.schedule.governing = none) : evaluateSchedule written s = evaluate s := by
  simp only [evaluateSchedule, h, hg]

theorem evaluateSchedule_ends {written : Option Nat} {s : State} (h : s.entryFound = none)
    (hg : s.schedule.governing ≠ none) : evaluateSchedule written s = evaluate (endEntry (setGoverning none s)) := by
  obtain ⟨x, hx⟩ := Option.ne_none_iff_exists'.1 hg
  simp only [evaluateSchedule, h, hx]

theorem takeSelect_router (n : Nat) (s : State) : (takeSelect n s).1 = s.withRouter (takeSelect n s).1.router := by
  have hswitch (p : Option Nat) : beginSwitch n p s = s.withRouter (beginSwitch n p s).router := by
    unfold beginSwitch
    split <;> rfl
  unfold takeSelect
  split
  · rfl
  · split
    · exact hswitch none
    · split <;> rfl
    · split
      · rfl
      · exact hswitch none
    · exact hswitch none

/-- A new current pair's geometry does not look at the router (R119). -/
theorem makeCurrent_geometry_withRouter (k : Keystone) (s : State) (x : Router) :
    (makeCurrent k (s.withRouter x)).geometry = (makeCurrent k s).geometry := by
  by_cases h : s.geometry.inFlight = none
  · rw [(keystoneBecomesCurrent k s).1 h, (keystoneBecomesCurrent k (s.withRouter x)).1 h]
    simp
  · rw [(keystoneBecomesCurrent k s).2 h, (keystoneBecomesCurrent k (s.withRouter x)).2 h]
    simp

theorem makeCurrent_store (k : Keystone) (s : State) : (makeCurrent k s).store = (mark .geometry s).store := by
  simp [makeCurrent, mark_eq]

theorem applySource_withRouter (n : Option Nat) (s : State) :
    applySource n s = s.withRouter
      (match n with
        | some n => (takeSelect n s).1.router
        | none => s.router) := by
  cases n with
  | none => rfl
  | some n => exact takeSelect_router n s

/-- The recall of an entry's preset, behind its selection (R125). -/
theorem applyPreset_withRouter (p : Option Nat) (x : Router) (s : State) :
    (applyPreset p (s.withRouter x)).geometry =
        (match p with
          | some n => (match s.geometry.preset n with | some k => (makeCurrent k s).geometry | none => s.geometry)
          | none => s.geometry) ∧
      (applyPreset p (s.withRouter x)).store =
        (match p with
          | some n => (match s.geometry.preset n with | some _ => (mark .geometry s).store | none => s.store)
          | none => s.store) := by
  cases p with
  | none => exact ⟨rfl, rfl⟩
  | some n =>
    simp only [applyPreset, takeRecallPreset, State.withRouter_geometry]
    cases s.geometry.preset n with
    | none => exact ⟨rfl, rfl⟩
    | some k => exact ⟨makeCurrent_geometry_withRouter k s x, (makeCurrent_store k _).trans (by rw [mark_eq, mark_eq]; rfl)⟩

theorem applyMode_lamp (mode : Option PowerMode) (s : State) :
    (applyMode mode s).lamp = { s.lamp with requested := mode.getD s.lamp.requested } := by
  cases mode <;> rfl

/-- Settles O35. -/
theorem scheduleIsEvaluated : Obligations.ScheduleIsEvaluated := by
  refine ⟨fun written s => ⟨fun slot e h hg hw => evaluateSchedule_stands h hg hw,
    fun slot e h hg => evaluateSchedule_applies h hg, evaluateSchedule_none, evaluateSchedule_ends⟩, fun e s => ?_⟩
  obtain ⟨hgeometry, hstore⟩ := applyPreset_withRouter e.preset
    (match e.source with
      | some n => (takeSelect n s).1.router
      | none => s.router) s
  rw [← applySource_withRouter] at hgeometry hstore
  have hrouter := congrArg State.router (applySource_withRouter e.source s)
  refine ⟨?_, ?_, ?_, ?_, ?_, ?_, ?_, ?_, ?_, ?_, ?_, ?_⟩
  · exact Eq.trans (b := (applySource e.source s).router) (by simp [applyEntry]) hrouter
  · exact Eq.trans (by simp [applyEntry]) hgeometry
  · simp [applyEntry, applyMode_lamp]
  · simp [applyEntry, setFloor]
  · simp [applyEntry, takeDutyEntry]
  · simp [applyEntry]
  · simp [applyEntry]
  · simp [applyEntry]
  · simp [applyEntry]
  · simp [applyEntry]
  · simp [applyEntry]
  · exact Eq.trans (by simp [applyEntry]) hstore

/-! ## The minute boundary -/

theorem broadcastClock_eq (day minute : Nat) (s : State) :
    broadcastClock day minute s =
      if s.line.timeReference then
        offerFrame
          { cls := 2, source := s.line.address, dest := 0x80, kind := .clock, authority := 0,
            payload := [byteOf day, byteOf (minute / 256), byteOf minute, 0] } s
      else s := by
  rw [broadcastClock, clockFrame, bytesOf_two]
  rfl

theorem takeBoundary_due {day minute : Nat} {s : State} (h : s.schedule.boundaryDue = some (day, minute))
    (hv : s.schedule.valid = true) :
    takeBoundary s =
      evaluateSchedule none (broadcastClock day minute (s.withSchedule { s.schedule with boundaryDue := none })) := by
  rw [takeBoundary, h]
  exact if_pos hv

theorem takeBoundary_same {s : State} (h : s.schedule.boundaryDue = none ∨ s.schedule.valid = false) :
    takeBoundary s = s := by
  rw [takeBoundary]
  split
  · rename_i hb
    rcases h with h | h
    · rw [h] at hb
      cases hb
    · exact if_neg (by rw [h]; decide)
  · rfl

/-- Settles O36. -/
theorem boundaryIsEvaluatedOnce : Obligations.BoundaryIsEvaluatedOnce := by
  intro s hr taken
  refine ⟨fun day minute h hv => effects_of_command hr rfl ?_, fun h => command_same (takeBoundary_same h)⟩
  rw [takeBoundary_due h hv, broadcastClock_eq]
  rfl

end Sys2Proof.Machine
end

section
/-! The statements about ACKNOWLEDGE, QUERY, WEAR RESET, SETTINGS WRITE and RESTART (R44, R45, R86, R176, R182, R183). -/

namespace Sys2Proof.Machine

/-- An order but SELECT and RESTART is answered with what its owner returns. -/
theorem orderTaken_answered {kind : OrderKind} {o : OrderFrame} {s u : State} {r : Result} {data : List Byte}
    (hs : kind ≠ .select) (hr : kind ≠ .restart)
    (hx : ownerTakes kind (orderAsTaken o) s = { state := u, result := r, data := data }) :
    orderTaken kind o s = answer (s.direct o) false kind.code o r data u := by
  have hx' : ownerTakes kind { args := o.args, authority := o.authority.toNat, origin := some o.source } s =
      { state := u, result := r, data := data } := hx
  have hk : (kind == .restart) = false := beq_false_of_ne hr
  simp only [orderTaken, hx', announce_of_ne_select hs, hk, Bool.false_and]

/-! ## ACKNOWLEDGE -/

/-- The line with the failure log emptied (R17). -/
def Line.logEmptied (l : Line) : Line := { l with failure := none, overflow := false }

/-- Conditions have been cleared, the failure log with TRANSMIT FAILED (R17, R176). -/
structure Cleared (s u : State) : Prop where
  rest : u = (s.withConditions u.conditions).withLine u.line
  line : u.line =
    if s.latched .transmitFailed = true ∧ u.latched .transmitFailed = false then s.line.logEmptied else s.line
  keeps : ∀ c, u.latched c = true → s.latched c = true

theorem Cleared.refl (s : State) : Cleared s s := ⟨rfl, by simp, fun _ => id⟩

theorem Cleared.trans {s u v : State} (h : Cleared s u) (h' : Cleared u v) : Cleared s v where
  rest := by
    rw [h'.rest, h.rest]
    rfl
  line := by
    have hkeep := h.keeps .transmitFailed
    rw [h'.line, h.line]
    cases hv : v.latched .transmitFailed <;> cases hu : u.latched .transmitFailed
    · simp
    · simp [hkeep hu]
    · simp
      intro hs
      have := h'.keeps .transmitFailed hv
      rw [hu] at this
      cases this
    · simp
  keeps c hc := h.keeps c (h'.keeps c hc)

theorem clearCondition_cleared (c : Condition) (s : State) : Cleared s (clearCondition c s) := by
  have hl (d : Condition) : (clearCondition c s).latched d = (s.latched d && decide (d ≠ c)) := clearCondition_latched d c s
  refine ⟨?_, ?_, fun d hd => ?_⟩
  · unfold clearCondition
    dsimp only
    split <;> rfl
  · rw [hl]
    unfold clearCondition
    dsimp only
    by_cases hc : c = .transmitFailed
    · subst hc
      by_cases hs : s.latched .transmitFailed = true
      · simp [hs, Line.logEmptied]
      · simp [hs]
    · simp [hc, Ne.symm hc]
  · rw [hl] at hd
    simp_all

theorem clearable_congr {s u : State} (h : u.lamp = s.lamp) (c : Condition) : u.clearable c = s.clearable c := by
  cases c <;> simp only [State.clearable, h]

theorem acknowledgeOne_latched (named : Nat) (c d : Condition) (s : State) :
    (acknowledgeOne named c s).latched d = true ↔
      s.latched d = true ∧ ¬ (d = c ∧ named.testBit (conditionCode d) = true ∧ s.clearable d = true) := by
  unfold acknowledgeOne
  split
  · rename_i h
    rw [clearCondition_latched]
    by_cases hd : d = c
    · subst hd
      simp_all
    · simp [hd]
  · rename_i h
    by_cases hd : d = c
    · subst hd
      simp only [Bool.and_eq_true, not_and] at h
      tauto
    · simp [hd]

theorem acknowledgeOne_cleared (named : Nat) (c : Condition) (s : State) : Cleared s (acknowledgeOne named c s) := by
  unfold acknowledgeOne
  split
  · exact clearCondition_cleared c s
  · exact .refl s

/-- The conditions of a list, acknowledged one by one. -/
theorem acknowledge_list (named : Nat) (conditions : List Condition) (s : State) :
    let u := conditions.foldl (fun u c => acknowledgeOne named c u) s
    Cleared s u ∧ ∀ d, u.latched d = true ↔
      s.latched d = true ∧ ¬ (d ∈ conditions ∧ named.testBit (conditionCode d) = true ∧ s.clearable d = true) := by
  induction conditions generalizing s with
  | nil => exact ⟨.refl s, by simp⟩
  | cons c conditions ih =>
    have hone := acknowledgeOne_cleared named c s
    have hlamp : (acknowledgeOne named c s).lamp = s.lamp := by rw [hone.rest]; rfl
    obtain ⟨hcleared, hlatched⟩ := ih (acknowledgeOne named c s)
    refine ⟨hone.trans hcleared, fun d => (hlatched d).trans ?_⟩
    rw [acknowledgeOne_latched, clearable_congr hlamp, List.mem_cons]
    tauto

theorem mem_allConditions (c : Condition) : c ∈ allConditions := by cases c <;> decide

theorem clearable_iff (s : State) (c : Condition) :
    s.clearable c = true ↔ ¬ (c = .thermalTrip ∧ ∃ t, s.lamp.housing = some t ∧ 70 ≤ t) := by
  cases c
  case thermalTrip =>
    cases h : s.lamp.housing with
    | none => simp [State.clearable, h]
    | some t =>
      simp only [State.clearable, h, decide_eq_true_eq]
      simp [Config.clearBelow]
  all_goals simp [State.clearable]

theorem takeAcknowledge_eq (named : Nat) (s : State) :
    takeAcknowledge named s =
      { state := (takeAcknowledge named s).state, result := .done,
        data := [byteOf ((takeAcknowledge named s).state.conditions.toNat / 256),
          byteOf (takeAcknowledge named s).state.conditions.toNat] } := by
  rw [← bytesOf_two]
  rfl

/-- Settles O37. -/
theorem acknowledgeClearsTheNamed : Obligations.AcknowledgeClearsTheNamed := by
  intro o a1 a0 s h ha
  have howner : ownerTakes .acknowledge (orderAsTaken o) s = takeAcknowledge (numberOf [a1, a0]) s := by
    simp only [ownerTakes, orderAsTaken, ha]
  obtain ⟨hcleared, hlatched⟩ := acknowledge_list (numberOf [a1, a0]) allConditions s
  refine ⟨(takeAcknowledge (numberOf [a1, a0]) s).state, ?_, fun c => (hlatched c).trans ?_, ?_⟩
  · exact effects_of_order rfl h (orderTaken_answered nofun nofun (howner.trans (takeAcknowledge_eq _ s)))
  · rw [clearable_iff, ← append_toNat]
    simp only [mem_allConditions, true_and, BitVec.getLsbD, ← Bool.not_eq_true]
    rw [not_and_or, not_not]
  · have hrest := hcleared.rest
    rw [hcleared.line] at hrest
    exact hrest

/-! ## QUERY -/

theorem Reaches.direct_of_only {kind : OrderKind} {o : OrderFrame} {s : State} (h : Reaches kind o s)
    (hk : orderDirectOnly kind = true) : s.direct o = true := by
  rcases h.judged with hd | ⟨-, hd⟩
  · rw [State.direct, hd]
    rfl
  · rw [hk] at hd
    cases hd

theorem answer_joins {code : Byte} {o : OrderFrame} {r : Result} {data : List Byte} {s : State}
    (ha : s.line.state = .active) (hr : s.line.queue.length < 8) :
    answer true false code o r data s = s.withLine
      { s.line with queue := s.line.queue ++
          [{ frame := answerFrame s o.source code o.tag r data, attempts := 0, forRestart := false }] } :=
  offerFrame_joins ha hr

theorem ownerTakes_query {t : Taken} {record index : Byte} (s : State) (h : t.args = [record, index]) :
    ownerTakes .query t s = { state := s, result := .done, data := queryData s record.toNat index.toNat } := by
  simp only [ownerTakes, h]

theorem exec_query {i : Instr} {o : OrderFrame} {record index : Byte} {s : State}
    (hi : orderCarried i = some (.query, o)) (h : Reaches .query o s) (ha : o.args = [record, index])
    (hq : s.line.queue.length < 8) :
    exec i s = .next (s.withLine
      { s.line with queue := s.line.queue ++
          [{ frame := answerFrame s o.source 0x61 o.tag .done (queryData s record.toNat index.toNat), attempts := 0,
             forRestart := false }] }) := by
  rw [exec_order hi]
  refine command_line h.delivered.released ?_ rfl
  rw [receiveOrder_reaches h, orderTaken_answered (kind := .query) nofun nofun (ownerTakes_query s ha),
    h.direct_of_only rfl]
  exact answer_joins h.delivered.active hq

theorem getD_past {α : Type} {n i : Nat} (v : Vector (Option α) n) (h : n ≤ i) : v.toList.getD i none = none := by
  rw [List.getD_eq_getElem?_getD, List.getElem?_eq_none (by simpa using h)]
  rfl

theorem or_512 {n : Nat} (h : n < 512) : n ||| 512 = n + 512 := by
  rw [Nat.or_comm, ← Nat.two_pow_add_eq_or_of_lt (i := 9) h 1]
  omega

theorem or_1024 {n : Nat} (h : n < 1024) : n ||| 1024 = n + 1024 := by
  rw [Nat.or_comm, ← Nat.two_pow_add_eq_or_of_lt (i := 10) h 1]
  omega

/-- The summary is the conditions with bits 9 and 10 for the life and expiry limits (R22). -/
theorem summary_toNat (s : State) :
    s.summary.toNat =
      s.conditions.toNat + (if s.store.settings.lifeLimit ≤ s.wear.record.equivalent then 512 else 0) +
        (if s.store.settings.expiryLimit ≤ s.wear.record.equivalent then 1024 else 0) := by
  have hc := s.conditions.isLt
  have hw : (s.conditions.setWidth 16).toNat = s.conditions.toNat := by
    rw [BitVec.toNat_setWidth]
    omega
  have hlife : (s.conditions.setWidth 16 |||
      (if s.store.settings.lifeLimit ≤ s.wear.record.equivalent then 0x0200#16 else 0#16)).toNat =
      s.conditions.toNat + (if s.store.settings.lifeLimit ≤ s.wear.record.equivalent then 512 else 0) := by
    split
    · rw [BitVec.toNat_or, hw]
      exact or_512 hc
    · simp [hw]
  rw [State.summary, BitVec.toNat_or, hlife]
  have hlow : s.conditions.toNat + (if s.store.settings.lifeLimit ≤ s.wear.record.equivalent then 512 else 0) < 1024 := by
    split <;> omega
  by_cases he : s.store.settings.expiryLimit ≤ s.wear.record.equivalent
  · simp only [he, if_true]
    exact or_1024 hlow
  · simp [he]

theorem pictureShown_flag (s : State) :
    (if s.pictureShown then 2 else 0) =
      (if s.lamp.state = .lit ∧ s.router.selection = .settled ∧ s.router.wanted = true then 2 else 0) :=
  if_congr (pictureShown_iff s) rfl rfl

theorem conditionsData_failed {r : FailureRecord} {s : State} (h : s.line.failure = some r) :
    conditionsData s =
      bytesOf 2 s.conditions.toNat ++
        [byteOf (reasonCode r.reason), flagByte s.line.overflow, byteOf r.kind.code.toNat, r.dest,
          (r.codeTag.map Prod.fst).getD 0, (r.codeTag.map Prod.snd).getD 0] := by
  rw [conditionsData, latchedBytes, h]
  obtain ⟨reason, kind, dest, codeTag⟩ := r
  rcases codeTag with _ | ⟨code, tag⟩ <;> rfl

/-! What a position of the two tables reports. -/

theorem aliasData_filled {s : State} {j : Fin 16} {e : AliasEntry} (h : s.router.table[j] = some e) :
    aliasData s j = aliasBytes e := by rw [aliasData, toList_getD_fin, h]

theorem aliasData_empty {s : State} {j : Fin 16} (h : s.router.table[j] = none) : aliasData s j = [] := by
  rw [aliasData, toList_getD_fin, h]

theorem entryData_filled {s : State} {j : Fin 32} {e : Entry} (h : s.schedule.table[j] = some e) :
    entryData s j = entryBytes e := by rw [entryData, entryAt_fin, h]

theorem entryData_empty {s : State} {j : Fin 32} (h : s.schedule.table[j] = none) : entryData s j = [] := by
  rw [entryData, entryAt_fin, h]

/-- Settles O38: each record by its layout. -/
theorem queriesReportTheState : Obligations.QueriesReportTheState := by
  refine ⟨fun i o record index s hi h ha hq => exec_query hi h ha hq, fun s i => ⟨rfl, ?_, rfl, rfl, ?_, ?_, ?_, ?_, ?_,
    fun j => ?_, fun j => ?_, rfl, fun j => ?_, fun h => ?_, fun r h => conditionsData_failed h, rfl, fun j => ?_, rfl,
    rfl⟩⟩
  · refine congrArg₂ (· ++ ·) (congrArg₂ (· ++ ·) (congrArg₂ (· ++ ·) (congrArg₂ (· ++ ·) ?_ rfl) ?_)
      (congrArg (bytesOf 2) (summary_toNat s))) rfl
    · simp only [List.cons.injEq, true_and, and_true]
      refine ⟨?_, ?_, ?_, rfl, ?_⟩
      · show byteOf (lampCode s.lamp.state) = _
        cases s.lamp.state <;> rfl
      · show byteOf (modeCode s.served) = _
        cases s.served <;> rfl
      · show byteOf (causeCode s.lamp.cause) = _
        cases s.lamp.cause <;> rfl
      · rw [← pictureShown_flag]
        rfl
    · show [byteOf s.sourceShown, byteOf (max (topLevel s.lockout.stack) s.lockout.floor)] = _
      rw [State.sourceShown, topLevel]
      cases s.lockout.stack.getLast? <;> rfl
  · intro h
    match i, h with
    | n + 2, _ => rfl
  · intro h
    show aliasData s i = []
    rw [aliasData, getD_past _ h]
  · intro h
    show entryData s i = []
    rw [entryData, Schedule.entryAt, getD_past _ h]
  · intro h
    show peerData s i = []
    rw [peerData, getD_past _ h]
  · intro h
    show presetData s i = []
    rw [presetData, Geometry.preset, getD_past _ h]
  · show aliasData s j = _
    cases h : s.router.table[j] with
    | none => exact aliasData_empty h
    | some e => exact aliasData_filled h
  · show entryData s j = _
    cases h : s.schedule.table[j] with
    | none => exact entryData_empty h
    | some e => exact entryData_filled h
  · show peerData s j = _
    rw [peerData, toList_getD_fin]
    rfl
  · show conditionsData s = _
    rw [conditionsData, latchedBytes, h]
  · show presetData s j = _
    rw [presetData, Geometry.preset, toList_getD_fin]
    rfl

/-! ## WEAR RESET, SETTINGS WRITE and RESTART -/

theorem takeWearReset_dark {label : List Byte} {s : State} (h : s.lamp.state = .dark) :
    takeWearReset label s =
      (mark .wear
        ((s.withWear
            { s.wear with
              record := { equivalent := 0, residue := 0, litSeconds := 0, strikes := 0, label := label } }).withConditions
          (s.conditions &&& 0x1F7#9)), .done) := by
  have hbit : ~~~ conditionBit .lifeLow = 0x1F7#9 := rfl
  rw [takeWearReset, if_pos h, clearCondition, hbit]
  rfl

theorem takeWearReset_lit {label : List Byte} {s : State} (h : s.lamp.state ≠ .dark) :
    takeWearReset label s = (s, .state) := if_neg h

/-- The life state of a lamp of no wear (R82; log 27). -/
theorem lifeStateOf_zero {x : Settings} (h : 1 ≤ x.ratedHours) :
    lifeStateOf x 0 = if x.ratedHours ≤ x.marginHours then .lifeLow else .noLife := by
  have hexpiry : ¬ x.expiryLimit ≤ 0 := by
    unfold Settings.expiryLimit
    omega
  have hlife : ¬ x.lifeLimit ≤ 0 := by
    unfold Settings.lifeLimit
    omega
  have hmargin : (x.lifeLimit ≤ x.margin ∨ withinMargin x 0 = true) ↔ x.ratedHours ≤ x.marginHours := by
    rw [withinMargin, decide_eq_true_eq, Settings.lifeLimit, Settings.margin]
    omega
  rw [lifeStateOf, if_neg hexpiry, if_neg hlife]
  exact if_congr hmargin rfl rfl

theorem ownerTakes_wearReset {t : Taken} {len : Byte} {label : List Byte} (s : State) (h : t.args = len :: label) :
    ownerTakes .wearReset t s = plain (takeWearReset label s) := by
  simp only [ownerTakes, h]

theorem ownerTakes_settingsWrite {t : Taken} {x : Settings} (s : State) (h : parseSettings t.args = some x) :
    ownerTakes .settingsWrite t s = plain (takeSettingsWrite x s) := by
  simp only [ownerTakes, h]

theorem orderTaken_restart (o : OrderFrame) (s : State) :
    orderTaken .restart o s =
      answer (s.direct o) (!s.store.restartPending) 0x71 o .done []
        (s.withStore { s.store with restartPending := true }) := by
  rw [orderTaken, announce_of_ne_select (kind := .restart) nofun]
  rfl

/-- Settles O39. -/
theorem wearSettingsAndRestartOrders : Obligations.WearSettingsAndRestartOrders := by
  refine ⟨fun o len label s h ha => ⟨fun hs => ⟨?_, fun hr => lifeStateOf_zero hr⟩, fun hs => ?_⟩,
    fun o x s h hx => ?_, fun o s h => effects_of_order rfl h (orderTaken_restart o s)⟩
  · exact effects_of_owner .wearReset rfl h nofun nofun
      ((ownerTakes_wearReset s ha).trans (congrArg plain (takeWearReset_dark hs)))
  · exact effects_of_owner .wearReset rfl h nofun nofun
      ((ownerTakes_wearReset s ha).trans (congrArg plain (takeWearReset_lit hs)))
  · exact effects_of_owner .settingsWrite rfl h nofun nofun (ownerTakes_settingsWrite s hx)

end Sys2Proof.Machine
end

section
/-! The statements about the keys (R46 to R48). -/

namespace Sys2Proof.Machine

/-! ## An order formed from a key -/

/-- A key's order as its owner takes it. -/
def keyTaken (args : List Byte) (s : State) : Taken :=
  { args := args, authority := s.store.settings.keypadAuthority, origin := none }

theorem orderRefusal_of_passes {kind : OrderKind} {args : List Byte} {s : State} (h : s.keyPasses kind)
    (hf : orderFormOk kind args = true) (hr : orderRangeOk kind args = true) :
    orderRefusal kind s.store.settings.keypadAuthority args s = none := by
  rw [orderRefusal, hf, hr]
  exact h

theorem keyOrder_taken {kind : OrderKind} {args : List Byte} {s u : State} {r : Result} (hk : kind ≠ .select)
    (hp : s.keyPasses kind) (hf : orderFormOk kind args = true) (hr : orderRangeOk kind args = true)
    (hx : ownerTakes kind (keyTaken args s) s = plain (u, r)) (ht : r.taken = true) : keyOrder kind args s = u := by
  have hx' : ownerTakes kind { args := args, authority := s.store.settings.keypadAuthority, origin := none } s =
      plain (u, r) := hx
  simp only [keyOrder, orderRefusal_of_passes hp hf hr, hx', announce_of_ne_select hk, plain, ht, if_true]

theorem keyOrder_shown {kind : OrderKind} {args : List Byte} {s : State} {r : Result} (hk : kind ≠ .select)
    (hp : s.keyPasses kind) (hf : orderFormOk kind args = true) (hr : orderRangeOk kind args = true)
    (hx : ownerTakes kind (keyTaken args s) s = plain (s, r)) (ht : r.taken = false) :
    keyOrder kind args s = showRefused s := by
  have hx' : ownerTakes kind { args := args, authority := s.store.settings.keypadAuthority, origin := none } s =
      plain (s, r) := hx
  have hn : ¬ r.taken = true := by rw [ht]; decide
  simp only [keyOrder, orderRefusal_of_passes hp hf hr, hx', announce_of_ne_select hk, plain, if_neg hn]

theorem keyOrder_refused {kind : OrderKind} {args : List Byte} {s : State} (hp : ¬ s.keyPasses kind) :
    keyOrder kind args s = showRefused s := by
  have hrefused : orderRefusal kind s.store.settings.keypadAuthority args s ≠ none := by
    unfold orderRefusal
    split
    · exact hp
    · exact nofun
  obtain ⟨r, hr⟩ := Option.ne_none_iff_exists'.1 hrefused
  simp only [keyOrder, hr]

/-- The level refuses a lockable key (R131). -/
theorem not_keyPasses_of_level {kind : OrderKind} {s : State} (hl : orderLockable kind = true)
    (h : s.store.settings.keypadAuthority ≤ s.level) : ¬ s.keyPasses kind := by
  unfold State.keyPasses State.lockoutCheck
  split
  · exact nofun
  · rw [hl, decide_eq_true h]
    exact nofun

theorem not_keyPasses_of_authority {kind : OrderKind} {s : State}
    (h : s.store.settings.keypadAuthority < orderMinAuthority kind) : ¬ s.keyPasses kind := by
  unfold State.keyPasses State.lockoutCheck
  rw [if_pos h]
  exact nofun

/-! ## POWER and BLANK -/

theorem pressPower_rest {s : State} (h : lampOn s.lamp.state = true) : pressPower s = keyOrder .rest [] s := by
  unfold pressPower
  cases hs : s.lamp.state
  case dark => rw [hs] at h; cases h
  case cooldown => rw [hs] at h; cases h
  all_goals rfl

theorem pressPower_light {s : State} (h : s.lamp.state = .dark ∨ s.lamp.state = .cooldown) :
    pressPower s = keyOrder .light [] s := by
  rcases h with h | h <;> simp only [pressPower, h]

theorem keyLight_taken {s u : State} {r : Result} (hp : s.keyPasses .light) (hx : takeLight .key s = (u, r))
    (ht : r.taken = true) : keyOrder .light [] s = u :=
  keyOrder_taken nofun hp rfl rfl (congrArg plain hx) ht

theorem pressBlank_taken {s : State} (h : s.keyPasses .blank) :
    pressBlank s = s.withRouter { s.router with wanted := !s.router.wanted } := by
  unfold pressBlank
  cases hw : s.router.wanted with
  | true =>
    refine (if_pos rfl).trans ?_
    exact keyOrder_taken (r := .done) nofun h rfl rfl rfl rfl
  | false =>
    refine (if_neg nofun).trans ?_
    have hshow : s.keyPasses .showPicture := h
    refine keyOrder_taken nofun hshow rfl rfl (congrArg plain (takeShow_eq s)) ?_
    split <;> rfl

/-! ## SOURCE -/

theorem mem_withSignal (r : Router) (n : Nat) :
    n ∈ r.withSignal ↔ ∃ e, some e ∈ r.table.toList ∧ e.source = n ∧ r.signalOn e.port = true := by
  simp only [Router.withSignal, List.mem_map, List.mem_filter, List.mem_filterMap, id_eq]
  constructor
  · rintro ⟨e, ⟨⟨x, hx, rfl⟩, hsig⟩, hs⟩
    exact ⟨e, hx, hs, hsig⟩
  · rintro ⟨e, hx, hs, hsig⟩
    exact ⟨e, ⟨⟨some e, hx, rfl⟩, hsig⟩, hs⟩

/-- The number found: the lowest with signal above the reference point, or the lowest of all with none above (R47). -/
theorem nextSource_some {r : Router} {n : Nat} (h : r.nextSource = some n) :
    n ∈ r.withSignal ∧
      ((r.referencePoint < n ∧ ∀ m ∈ r.withSignal, r.referencePoint < m → n ≤ m) ∨
        ∀ m ∈ r.withSignal, m ≤ r.referencePoint ∧ n ≤ m) := by
  unfold Router.nextSource at h
  split at h
  · rename_i k hk
    cases h
    obtain ⟨hmem, hmin⟩ := List.min?_eq_some_iff.1 hk
    obtain ⟨hsig, habove⟩ := List.mem_filter.1 hmem
    exact ⟨hsig, .inl ⟨by simpa using habove, fun m hm ha => hmin m (List.mem_filter.2 ⟨hm, by simpa using ha⟩)⟩⟩
  · rename_i hnone
    obtain ⟨hsig, hmin⟩ := List.min?_eq_some_iff.1 h
    rw [List.min?_eq_none_iff, List.filter_eq_nil_iff] at hnone
    exact ⟨hsig, .inr fun m hm => ⟨by simpa using hnone m hm, hmin m hm⟩⟩

theorem nextSource_none {r : Router} (h : ∀ e, some e ∈ r.table.toList → r.signalOn e.port = false) :
    r.nextSource = none := by
  have hnil : r.withSignal = [] := by
    rw [List.eq_nil_iff_forall_not_mem]
    intro n hn
    obtain ⟨e, he, -, hsig⟩ := (mem_withSignal r n).1 hn
    rw [h e he] at hsig
    cases hsig
  simp [Router.nextSource, hnil]

theorem takeSelect_result (n : Nat) (s : State) :
    (takeSelect n s).2 = .unknown ∨ (takeSelect n s).2 = .done ∨ (takeSelect n s).2 = .started := by
  unfold takeSelect
  split
  · exact .inl rfl
  · split
    · exact .inr (.inr rfl)
    · split <;> exact .inr (.inr rfl)
    · split
      · exact .inr (.inl rfl)
      · exact .inr (.inr rfl)
    · exact .inr (.inr rfl)

theorem keySelect_taken {n : Nat} {s : State} (h1 : 1 ≤ n) (h63 : n ≤ 63) (hp : s.keyPasses .select)
    (hu : (takeSelect n s).2 ≠ .unknown) :
    keyOrder .select [byteOf n] s =
      if (takeSelect n s).2 = .started then offerCues s.store.settings.keypadAuthority n (takeSelect n s).1
      else (takeSelect n s).1 := by
  have hn : (byteOf n).toNat = n := byteOf_toNat (by omega)
  have hrange : orderRangeOk .select [byteOf n] = true := by
    simp only [orderRangeOk, sourceInRange, hn]
    exact decide_eq_true ⟨h1, h63⟩
  have htaken : (takeSelect n s).2.taken = true := by
    rcases takeSelect_result n s with h | h | h
    · exact absurd h hu
    · rw [h]; rfl
    · rw [h]; rfl
  simp only [keyOrder, orderRefusal_of_passes hp rfl hrange, ownerTakes, announce, plain, hn, htaken, if_true]

theorem referencePoint_cases (r : Router) :
    (∀ m, r.selection = .switching → r.pendingTarget = some m → r.referencePoint = m) ∧
      (∀ n, r.selection ≠ .switching ∨ r.pendingTarget = none → r.current = some n → r.referencePoint = n) ∧
      (r.selection = .noSource → r.current = none → r.referencePoint = 0) := by
  refine ⟨fun m hs hp => ?_, fun n h hc => ?_, fun hs hc => ?_⟩
  · simp only [Router.referencePoint, hs, hp]
  · unfold Router.referencePoint
    split
    · rename_i m hs hp
      rcases h with h | h
      · exact absurd hs h
      · rw [hp] at h
        cases h
    · rw [hc]
      rfl
  · simp only [Router.referencePoint, hs, hc, Option.getD_none]

/-- Settles O40. -/
theorem powerBlankAndSourceKeys : Obligations.PowerBlankAndSourceKeys := by
  refine ⟨fun s hr hs hb hp => ?_, fun s hr hs hb hp => ?_, fun s hr hs hp => ?_,
    fun s hr hp => effects_of_command hr rfl (pressBlank_taken hp), fun s h => command_same ?_,
    fun n s hr hp h1 h63 hn hu => effects_of_command hr rfl ?_, fun n r h => ?_, referencePoint_cases⟩
  · exact effects_of_command hr rfl
      ((pressPower_light (.inl hs)).trans (keyLight_taken hp (takeLight_dark hs hb) rfl))
  · exact effects_of_command hr rfl
      ((pressPower_light (.inr hs)).trans (keyLight_taken hp (takeLight_cooldown hs hb) rfl))
  · exact effects_of_command hr rfl
      ((pressPower_rest hs).trans (keyOrder_taken nofun hp rfl rfl (congrArg plain (takeRest_on hs)) rfl))
  · rw [pressSource, nextSource_none h]
  · rw [pressSource, hn]
    exact keySelect_taken h1 h63 hp hu
  · intro signalled
    have hsig (m : Nat) : m ∈ r.withSignal ↔ signalled m := mem_withSignal r m
    obtain ⟨hmem, hcase⟩ := nextSource_some h
    refine ⟨(hsig n).1 hmem, fun hlt m hm ha => ?_, fun hle m hm => ?_⟩
    · rcases hcase with ⟨-, hmin⟩ | hall
      · exact hmin m ((hsig m).2 hm) ha
      · exact (hall m ((hsig m).2 hm)).2
    · rcases hcase with ⟨hlt, -⟩ | hall
      · exact absurd hlt (Nat.not_lt.2 hle)
      · exact hall m ((hsig m).2 hm)

/-! ## V and H -/

theorem keyStep_range (axis : Byte) (h : axis.toNat ≤ 1) (plus : Bool) :
    orderRangeOk .nudgeKeystone [axis, if plus then signedByteOf 1 else signedByteOf (-1)] = true := by
  cases plus <;> exact decide_eq_true ⟨h, by decide, by decide⟩

theorem keyStep_toInt (plus : Bool) :
    (if plus then signedByteOf 1 else signedByteOf (-1)).toInt = if plus then 1 else -1 := by
  cases plus <;> rfl

theorem done_or_adjusted_taken (p : Prop) [Decidable p] : (if p then Result.done else .adjusted).taken = true := by
  split <;> rfl

theorem pressKeystone_vertical {plus : Bool} {s : State} (h : s.keyPasses .nudgeKeystone) :
    pressKeystone 0 plus s =
      makeCurrent
        { kv := limited (verticalBound s.geometry.current.kh) (s.geometry.current.kv + if plus then 1 else -1)
          kh := s.geometry.current.kh } s := by
  refine (keyOrder_taken (kind := .nudgeKeystone) nofun h rfl (keyStep_range 0 (by decide) plus)
    ((ownerTakes_nudgeVertical (t := keyTaken _ s) s rfl).trans (congrArg plain (nudgeVertical_eq _ s)))
    (done_or_adjusted_taken _)).trans ?_
  rw [keyStep_toInt]

theorem pressKeystone_horizontal {plus : Bool} {s : State} (h : s.keyPasses .nudgeKeystone) :
    pressKeystone 1 plus s =
      makeCurrent
        { kv := s.geometry.current.kv
          kh := limited (horizontalBound s.geometry.current.kv) (s.geometry.current.kh + if plus then 1 else -1) } s := by
  refine (keyOrder_taken (kind := .nudgeKeystone) nofun h rfl (keyStep_range 1 (by decide) plus)
    ((ownerTakes_nudgeHorizontal (t := keyTaken _ s) s rfl).trans (congrArg plain (nudgeHorizontal_eq _ s)))
    (done_or_adjusted_taken _)).trans ?_
  rw [keyStep_toInt]

theorem limited_vertical_of_ok {k : Keystone} (h : k.ok = true) : limited (verticalBound k.kh) k.kv = k.kv := by
  obtain ⟨hkv, hkh, hsum⟩ := (keystone_ok_iff k).1 h
  refine limited_of_le ?_
  unfold verticalBound
  omega

theorem limited_horizontal_of_ok {k : Keystone} (h : k.ok = true) : limited (horizontalBound k.kv) k.kh = k.kh := by
  obtain ⟨hkv, hkh, hsum⟩ := (keystone_ok_iff k).1 h
  refine limited_of_le ?_
  unfold horizontalBound
  omega

/-- A refused key shows REFUSED and changes nothing else (R48). -/
theorem command_refused {f : State → State} {s : State} (hr : s.released = true) (h : f s = showRefused s) :
    command f s = .next (s.withRefusedTimer (some (s.now + 1000))) :=
  command_next hr h (dutySources_congr rfl rfl rfl rfl rfl rfl rfl) (beaconNow_congr rfl rfl rfl rfl rfl rfl rfl rfl) rfl

theorem indicator_eq (s : State) :
    s.indicator = if s.refusedTimer ≠ none then .refused else if s.line.state = .clash then .clash else .blank := by
  unfold State.indicator
  cases s.refusedTimer <;> rfl

/-- Settles O41. -/
theorem keystoneKeysAndRefusals : Obligations.KeystoneKeysAndRefusals := by
  refine ⟨fun plus s hr hp => ?_, fun plus s hr h => ?_, fun s hr hs h => ?_, fun s hr h => ⟨fun hs => ?_, ?_, fun hn => ?_⟩,
    fun due s hr hdue hnow => ?_, fun s h => command_same (if_neg (by rw [runsOut_early h]; decide)), indicator_eq⟩
  · intro step old vertical horizontal
    have hv := pressKeystone_vertical (plus := plus) hp
    have hh := pressKeystone_horizontal (plus := plus) hp
    refine ⟨fun hok => effects_of_command hr rfl (hv.trans ?_), fun hok => effects_of_command hr rfl (hh.trans ?_),
      fun _ => ?_⟩
    · exact congrArg (fun x => makeCurrent { kv := x, kh := old.kh } s) (limited_vertical_of_ok hok)
    · exact congrArg (fun x => makeCurrent { kv := old.kv, kh := x } s) (limited_horizontal_of_ok hok)
    · intro v h
      have hv' : ((verticalBound old.kh : Nat) : Int) = v := by simp [verticalBound, v]
      have hh' : ((horizontalBound old.kv : Nat) : Int) = h := by simp [horizontalBound, h]
      rw [limited_eq] at hv hh
      rw [← hv', ← hh']
      exact ⟨effects_of_command hr rfl hv, effects_of_command hr rfl hh⟩
  · have hno : ¬ s.keyPasses .nudgeKeystone := by
      rcases h with h | h
      · exact not_keyPasses_of_authority h
      · exact not_keyPasses_of_level rfl h
    exact ⟨command_refused hr (keyOrder_refused hno), command_refused hr (keyOrder_refused hno)⟩
  · refine command_refused hr ((pressPower_light hs).trans ?_)
    by_cases hp : s.keyPasses .light
    · rcases h with h | h
      · exact keyOrder_shown nofun hp rfl rfl (congrArg plain (takeLight_barred hs h)) rfl
      · exact absurd hp (not_keyPasses_of_level rfl h)
    · exact keyOrder_refused hp
  · exact command_refused hr ((pressPower_rest hs).trans (keyOrder_refused (not_keyPasses_of_level rfl h)))
  · refine command_refused hr ?_
    unfold pressBlank
    split
    · exact keyOrder_refused (not_keyPasses_of_level rfl h)
    · exact keyOrder_refused (not_keyPasses_of_level rfl h)
  · refine command_refused hr ?_
    obtain ⟨n, hn⟩ := Option.ne_none_iff_exists'.1 hn
    rw [pressSource, hn]
    exact keyOrder_refused (not_keyPasses_of_level rfl h)
  · exact command_next hr (if_pos (runsOut_of_due hdue hnow)) (dutySources_congr rfl rfl rfl rfl rfl rfl rfl)
      (beaconNow_congr rfl rfl rfl rfl rfl rfl rfl rfl) rfl

end Sys2Proof.Machine
end

section
/-! The statements about the stages of a strike and the charges (R49 to R58, R73, R76, R80 to R83). -/

namespace Sys2Proof.Machine

/-! ## Ignite attempts -/

theorem beginAttempt_dark {s : State} (h : s.lamp.sense = false) :
    beginAttempt s = s.withLamp { s.lamp with state := .ignite, timer := some (s.now + 2000), inGap := false } :=
  if_neg (by rw [h]; decide)

theorem beginAttempt_lit {s : State} (h : s.lamp.sense = true) :
    beginAttempt s =
      ignite (s.withLamp { s.lamp with state := .ignite, timer := some (s.now + 2000), inGap := false }) :=
  if_pos h

theorem preheatEnds_eq {s : State} (h : s.lamp.state = .preheat) : preheatEnds s = beginAttempt s := if_pos h

theorem gapEnds_eq {s : State} (h : s.lamp.state = .ignite) (hg : s.lamp.inGap = true) : gapEnds s = beginAttempt s :=
  if_pos ⟨h, hg⟩

/-- In IGNITE the lamp's stage stands as the next attempt begins. -/
theorem lamp_reignited {l : Lamp} (h : l.state = .ignite) (timer : Option Nat) (gap : Bool) :
    { l with state := .ignite, timer := timer, inGap := gap } = { l with timer := timer, inGap := gap } := by
  rw [← h]

theorem warmupEnds_eq {s : State} (h : s.lamp.state = .warmup) :
    warmupEnds s = s.withLamp { s.lamp with state := .lit, timer := none } := if_pos h

theorem cooldownEnds_strikes {s : State} {cause : LitCause} (h : s.lamp.state = .cooldown) (ht : s.lamp.timer ≠ none)
    (hc : s.lamp.heldStrike = some cause) (hb : s.barred = false) : cooldownEnds s = enterPreheat cause s := by
  rw [cooldownEnds, if_pos ⟨h, Option.isSome_iff_ne_none.2 ht⟩, hc]
  exact if_neg (by rw [hb]; decide)

theorem cooldownEnds_darkens {s : State} (h : s.lamp.state = .cooldown) (ht : s.lamp.timer ≠ none)
    (hc : s.lamp.heldStrike = none ∨ s.barred = true) :
    cooldownEnds s = s.withLamp { s.lamp with state := .dark, timer := none, heldStrike := none } := by
  rw [cooldownEnds, if_pos ⟨h, Option.isSome_iff_ne_none.2 ht⟩]
  split
  · rename_i cause hs
    rcases hc with hc | hc
    · rw [hc] at hs
      cases hs
    · exact if_pos hc
  · rfl

/-- Settles O42. -/
theorem stageTimersAndCooldownsEnd : Obligations.StageTimersAndCooldownsEnd := by
  refine ⟨fun s hr hn hs => ?_, fun s hr hn hs hg => ?_, fun s hr hn hs => ?_, fun s hr hn hs hg => ?_,
    fun s hr hs => effects_of_command hr rfl (warmupEnds_eq hs), fun s hr hs ht =>
    ⟨fun cause hc hb => effects_of_command hr rfl (cooldownEnds_strikes hs ht hc hb),
      fun hc => effects_of_command hr rfl (cooldownEnds_darkens hs ht hc)⟩, fun s => ?_⟩
  · exact effects_of_command hr rfl ((preheatEnds_eq hs).trans (beginAttempt_dark hn))
  · refine effects_of_command hr rfl ((gapEnds_eq hs hg).trans ((beginAttempt_dark hn).trans ?_))
    rw [lamp_reignited hs]
  · exact effects_of_command hr rfl ((preheatEnds_eq hs).trans (beginAttempt_lit hn))
  · refine effects_of_command hr rfl ((gapEnds_eq hs hg).trans ((beginAttempt_lit hn).trans ?_))
    rw [lamp_reignited hs]
  · unfold State.ballast State.fans
    cases s.lamp.state <;> rfl

/-! ## The life state -/

theorem judgeLifeLow_within {s : State}
    (h : s.store.settings.ratedHours * 3600 < s.wear.record.equivalent + s.store.settings.marginHours * 3600) :
    judgeLifeLow s = latch .lifeLow ((s.store.settings.ratedHours * 3600 - s.wear.record.equivalent) / 3600) s :=
  if_pos (decide_eq_true h)

theorem judgeLifeLow_beyond {s : State}
    (h : s.wear.record.equivalent + s.store.settings.marginHours * 3600 ≤ s.store.settings.ratedHours * 3600) :
    judgeLifeLow s = s :=
  if_neg (by rw [withinMargin, decide_eq_true_eq]; exact Nat.not_lt.2 h)

theorem lifeStateOf_cases (x : Settings) (e : Nat) :
    (lifeStateOf x e = .expired ↔ x.expiryLimit ≤ e) ∧
      (lifeStateOf x e = .lifeOut ↔ x.lifeLimit ≤ e ∧ e < x.expiryLimit) ∧
      (lifeStateOf x e = .lifeLow ↔
        e < x.lifeLimit ∧ e < x.expiryLimit ∧ (x.lifeLimit ≤ x.margin ∨ x.lifeLimit < e + x.margin)) ∧
      (lifeStateOf x e = .noLife ↔
        x.margin < x.lifeLimit ∧ e + x.margin ≤ x.lifeLimit ∧ e < x.lifeLimit ∧ e < x.expiryLimit) := by
  unfold lifeStateOf withinMargin
  split
  · simp only [reduceCtorEq, true_iff, false_iff]
    omega
  split
  · simp only [reduceCtorEq, true_iff, false_iff]
    omega
  split
  · rename_i h
    rw [decide_eq_true_eq] at h
    simp only [reduceCtorEq, true_iff, false_iff]
    omega
  · rename_i h
    rw [decide_eq_true_eq] at h
    simp only [reduceCtorEq, true_iff, false_iff]
    omega

/-! ## The charges -/

theorem restExpired_expired {s : State} (h : s.life = .expired) (hl : lampOn s.lamp.state = true) :
    restExpired s = enterCooldown s := if_pos ⟨h, hl⟩

theorem restExpired_stands {s : State} (h : s.life ≠ .expired) : restExpired s = s := if_neg fun hc => h hc.1

/-! The failure log and the notices look at the line, the conditions and the notice mask alone. -/

/-- A change aside from the line, the conditions and the notice mask. -/
structure Aside (g : State → State) : Prop where
  line : ∀ u, (g u).line = u.line
  conditions : ∀ u, (g u).conditions = u.conditions
  noticeWanted : ∀ u c, (g u).noticeWanted c = u.noticeWanted c
  withLine : ∀ u x, (g u).withLine x = g (u.withLine x)
  withConditions : ∀ u x, (g u).withConditions x = g (u.withConditions x)

namespace Aside

variable {g : State → State} (hg : Aside g)
include hg

theorem latched (u : State) (c : Condition) : (g u).latched c = u.latched c := by
  rw [State.latched, State.latched, hg.conditions]

theorem joinQueue (f : Frame) (m : Bool) (s : State) : Machine.joinQueue f m (g s) = g (Machine.joinQueue f m s) := by
  rw [Machine.joinQueue, Machine.joinQueue, hg.line, hg.withLine]

theorem offerFailureNotice (r : FailureRecord) (s : State) :
    Machine.offerFailureNotice r (g s) = g (Machine.offerFailureNotice r s) := by
  unfold Machine.offerFailureNotice State.queueHasRoom noticeFrame
  rw [apply_ite g, apply_ite g]
  simp only [hg.joinQueue, hg.line, hg.withLine]

theorem recordFailure (r : FailureRecord) (s : State) :
    Machine.recordFailure r (g s) = g (Machine.recordFailure r s) := by
  unfold Machine.recordFailure
  rw [hg.line]
  cases s.line.failure with
  | some old => exact hg.withLine _ _
  | none =>
    dsimp only
    rw [apply_ite g, apply_ite g]
    simp only [hg.latched, hg.noticeWanted, hg.conditions, hg.withLine, hg.withConditions, hg.offerFailureNotice]

theorem offerFrame (f : Frame) (s : State) : Machine.offerFrame f (g s) = g (Machine.offerFrame f s) := by
  unfold Machine.offerFrame offerMarked State.queueHasRoom
  rw [apply_ite g, apply_ite g]
  simp only [hg.line, hg.joinQueue, hg.recordFailure]

theorem latch (c : Condition) (detail : Nat) (s : State) :
    Machine.latch c detail (g s) = g (Machine.latch c detail s) := by
  unfold Machine.latch noticeFrame
  rw [apply_ite g]
  dsimp only
  rw [apply_ite g]
  simp only [hg.latched, hg.noticeWanted, hg.line, hg.conditions, hg.withConditions, hg.offerFrame]

end Aside

theorem latch_withLamp (c : Condition) (detail : Nat) (s : State) (x : Lamp) :
    latch c detail (s.withLamp x) = (latch c detail s).withLamp x :=
  Aside.latch (g := fun u => u.withLamp x)
    ⟨fun _ => rfl, fun _ => rfl, fun _ _ => rfl, fun _ _ => rfl, fun _ _ => rfl⟩ c detail s

theorem judgeLifeLow_withLamp (s : State) (x : Lamp) : judgeLifeLow (s.withLamp x) = (judgeLifeLow s).withLamp x := by
  unfold judgeLifeLow
  rw [apply_ite (fun t : State => t.withLamp x), ← latch_withLamp]
  rfl

/-! ## Attempts and ignition -/

theorem enterCooldown_record (s : State) : (enterCooldown s).wear.record = s.wear.record := by
  unfold enterCooldown
  split
  · simp [extinction]
  · rfl

/-- A charged lamp whose wear has not expired stays in its stage. -/
theorem afterCharge_stands {s : State} (h : s.life ≠ .expired) : afterCharge s = judgeLifeLow s := by
  rw [afterCharge, restExpired_stands h]

theorem afterCharge_expired {s : State} (h : s.life = .expired) (hl : lampOn s.lamp.state = true) :
    afterCharge s = judgeLifeLow (enterCooldown s) := by
  rw [afterCharge, restExpired_expired h hl]

/-- The wear record after the charge of a failed attempt (R81). -/
def attemptCharged (s : State) : State :=
  s.withWear
    { s.wear with record := { s.wear.record with equivalent := min (s.wear.record.equivalent + 60) 4294967295 } }

theorem chargeFailedAttempt_eq (s : State) (x : Lamp) :
    chargeFailedAttempt (s.withLamp x) = afterCharge ((attemptCharged s).withLamp x) := rfl

/-- Neither the expiry of the lamp nor LIFE LOW moves a lamp that stays in IGNITE. -/
theorem attemptEnds_gap {s : State} (hs : s.lamp.state = .ignite) (hg : s.lamp.inGap = false)
    (he : (attemptCharged s).life ≠ .expired) (ha : s.lamp.attempts < 2) :
    attemptEnds s =
      judgeLifeLow
        ((attemptCharged s).withLamp
          { s.lamp with attempts := s.lamp.attempts + 1, inGap := true, timer := some (s.now + 3000) }) := by
  have hx : ((attemptCharged s).withLamp { s.lamp with attempts := s.lamp.attempts + 1 }).life ≠ .expired := he
  have hm : s.lamp.attempts + 1 < Config.maxAttempts := by
    simp only [Config.maxAttempts]
    omega
  unfold attemptEnds
  rw [if_pos ⟨hs, hg⟩, chargeFailedAttempt_eq, afterCharge_stands hx, judgeLifeLow_withLamp, judgeLifeLow_withLamp]
  exact (if_pos hs).trans (if_pos hm)

theorem attemptEnds_fails {s : State} (hs : s.lamp.state = .ignite) (hg : s.lamp.inGap = false)
    (he : (attemptCharged s).life ≠ .expired) (ha : 2 ≤ s.lamp.attempts) :
    attemptEnds s =
      enterCooldown
        (latch .ignitionFailed 3
          (judgeLifeLow ((attemptCharged s).withLamp { s.lamp with attempts := s.lamp.attempts + 1 }))) := by
  have hx : ((attemptCharged s).withLamp { s.lamp with attempts := s.lamp.attempts + 1 }).life ≠ .expired := he
  have hm : ¬ s.lamp.attempts + 1 < Config.maxAttempts := by
    simp only [Config.maxAttempts]
    omega
  unfold attemptEnds
  rw [if_pos ⟨hs, hg⟩, chargeFailedAttempt_eq, afterCharge_stands hx, judgeLifeLow_withLamp]
  exact (if_pos hs).trans (if_neg hm)

theorem attemptEnds_expired {s : State} (hs : s.lamp.state = .ignite) (hg : s.lamp.inGap = false)
    (he : (attemptCharged s).life = .expired) :
    attemptEnds s =
      judgeLifeLow
        (enterCooldown ((attemptCharged s).withLamp { s.lamp with attempts := s.lamp.attempts + 1 })) := by
  have hx : ((attemptCharged s).withLamp { s.lamp with attempts := s.lamp.attempts + 1 }).life = .expired := he
  have hon : lampOn ((attemptCharged s).withLamp { s.lamp with attempts := s.lamp.attempts + 1 }).lamp.state = true :=
    congrArg lampOn hs
  unfold attemptEnds
  rw [if_pos ⟨hs, hg⟩, chargeFailedAttempt_eq, afterCharge_expired hx hon]
  refine if_neg fun hc => ?_
  rw [judgeLifeLow_lamp] at hc
  cases hc

/-- The state that IGNITION in IGNITE leaves before expiry and LIFE LOW are judged (R53, R80). -/
def ignitionCharged (s : State) : State :=
  (s.withLamp
      { s.lamp with
        state := .warmup, timer := some (s.now + s.store.settings.warmup * 1000), inGap := false, attempts := 0,
        sense := true }).withWear
    { s.wear with
      record := { s.wear.record with
        equivalent := min (s.wear.record.equivalent + strikeCharge s.wear.sinceExtinction) 4294967295
        strikes := min (s.wear.record.strikes + 1) 4294967295 } }

theorem senseAppears_ignites {s : State} (h : s.lamp.state = .ignite) :
    senseAppears s = afterCharge (ignitionCharged s) := if_pos h

theorem senseAppears_held {s : State} (h : s.lamp.state ≠ .ignite) :
    senseAppears s = s.withLamp { s.lamp with sense := true } := if_neg h

/-- The lamp-on sense is nothing that is followed. -/
theorem command_sense {f : State → State} {s : State} {x : Bool} (hr : s.released = true)
    (e : f s = s.withLamp { s.lamp with sense := x }) : command f s = .next (s.withLamp { s.lamp with sense := x }) :=
  command_next hr e rfl rfl rfl

/-- Settles O43. -/
theorem attemptsAndIgnitionAreCharged : Obligations.AttemptsAndIgnitionAreCharged := by
  refine ⟨fun s hr hs hg => ⟨fun he ha => ?_, fun he ha => ?_, fun he => ?_⟩, fun s hr hs => ?_,
    fun s hr hs => command_sense hr (senseAppears_held hs), fun s => ⟨judgeLifeLow_within, judgeLifeLow_beyond⟩,
    fun s => lifeStateOf_cases s.store.settings s.wear.record.equivalent⟩
  · exact effects_of_command hr rfl (attemptEnds_gap hs hg he ha)
  · exact effects_of_command hr rfl (attemptEnds_fails hs hg he ha)
  · exact effects_of_command hr rfl (attemptEnds_expired hs hg he)
  · intro charge lit
    have hc : strikeCharge s.wear.sinceExtinction = charge := by
      subst charge
      unfold strikeCharge
      cases s.wear.sinceExtinction <;> rfl
    have hlit : lit = ignitionCharged s := by
      unfold ignitionCharged
      rw [hc]
    rw [hlit]
    exact ⟨fun he => effects_of_command hr rfl ((senseAppears_ignites hs).trans (afterCharge_stands he)),
      fun he => effects_of_command hr rfl ((senseAppears_ignites hs).trans (afterCharge_expired he rfl))⟩

/-! ## Dropout and the thermal trip -/

theorem senseLost_burning {s : State} (h : lampBurning s.lamp.state = true) :
    senseLost s =
      enterCooldown (latch .lampOut (lampCode s.lamp.state) (s.withLamp { s.lamp with sense := false })) := if_pos h

theorem senseLost_held {s : State} (h : lampBurning s.lamp.state = false) :
    senseLost s = s.withLamp { s.lamp with sense := false } := if_neg (by rw [h]; decide)

theorem thermalTrip_latched {s : State} {sample : Int} (h : s.latched .thermalTrip = true) : thermalTrip sample s = s :=
  if_pos h

theorem thermalTrip_on {s : State} {sample : Int} (h : s.latched .thermalTrip = false)
    (hl : lampOn s.lamp.state = true) : thermalTrip sample s = enterCooldown (latch .thermalTrip sample.toNat s) :=
  (if_neg (by rw [h]; decide)).trans (if_pos hl)

theorem thermalTrip_cooling {s : State} {sample : Int} (h : s.latched .thermalTrip = false)
    (hl : s.lamp.state = .cooldown) :
    thermalTrip sample s = (latch .thermalTrip sample.toNat s).withLamp { s.lamp with heldStrike := none } := by
  refine (if_neg (by rw [h]; decide)).trans ((if_neg (by rw [hl]; decide)).trans ((if_pos hl).trans ?_))
  rw [latch_lamp]

theorem thermalTrip_dark {s : State} {sample : Int} (h : s.latched .thermalTrip = false)
    (hl : s.lamp.state = .dark) : thermalTrip sample s = latch .thermalTrip sample.toNat s :=
  (if_neg (by rw [h]; decide)).trans ((if_neg (by rw [hl]; decide)).trans (if_neg (by rw [hl]; decide)))

/-- Settles O44. -/
theorem dropoutAndTripRestTheLamp : Obligations.DropoutAndTripRestTheLamp := by
  refine ⟨fun s hr => ⟨fun h => ?_, fun h => ?_, fun h => command_sense hr (senseLost_held h)⟩, fun sample s =>
    ⟨thermalTrip_latched, fun h => ⟨thermalTrip_on h, thermalTrip_cooling h, thermalTrip_dark h⟩, fun h => if_pos h,
      fun h => if_neg (Int.not_le.2 h)⟩⟩
  · refine effects_of_command hr rfl ((senseLost_burning (by rw [h]; rfl)).trans ?_)
    rw [h]
    rfl
  · refine effects_of_command hr rfl ((senseLost_burning (by rw [h]; rfl)).trans ?_)
    rw [h]
    rfl

end Sys2Proof.Machine
end

section
/-! The statement about the one-second tick (R69 to R73, R77 to R79, R83, R137, R143). -/

namespace Sys2Proof.Machine

/-! ## The lamp second -/

/-- The lit seconds reach a whole multiple of 360 unless the counter stands at its maximum (R78). -/
theorem reachesMark_iff (n : Nat) :
    reachesMark n (raised n 1) = true ↔ n < 4294967295 ∧ (n + 1) % 360 = 0 := by
  simp only [reachesMark, raised, Config.counterMax, Config.markEvery, Bool.and_eq_true, bne_iff_ne, beq_iff_eq, ne_eq]
  omega

/-- The state after a lamp second's record is taken (R77). -/
def secondWeighed (s : State) : State :=
  s.withWear
    { s.wear with record := recordSecond (secondWeight (weightState s) s.lamp.tickHot) s.wear.record }

/-- That state with its record marked where the lit seconds reach a whole multiple of 360 (R78). -/
def secondMarked (s : State) : State :=
  if s.wear.record.litSeconds < 4294967295 ∧ (s.wear.record.litSeconds + 1) % 360 = 0 then mark .wear (secondWeighed s)
  else secondWeighed s

theorem secondMarked_wear (s : State) : (secondMarked s).wear = (secondWeighed s).wear := by
  unfold secondMarked
  split
  · exact mark_wear _ _
  · rfl

theorem mark_settings (r : RecordId) (s : State) : (mark r s).store.settings = s.store.settings := by
  rw [mark_store]

theorem secondMarked_settings (s : State) : (secondMarked s).store.settings = s.store.settings := by
  unfold secondMarked
  split
  · exact mark_settings _ _
  · rfl

theorem secondMarked_life (s : State) : (secondMarked s).life = (secondWeighed s).life := by
  unfold State.life
  rw [secondMarked_wear, secondMarked_settings]
  rfl

theorem secondMarked_lamp (s : State) : (secondMarked s).lamp = s.lamp := by
  unfold secondMarked
  split
  · exact mark_lamp _ _
  · rfl

theorem lampSecond_marked (s : State) : lampSecond s = afterCharge (secondMarked s) := by
  unfold lampSecond secondMarked
  exact congrArg afterCharge (if_congr (reachesMark_iff _) rfl rfl)

theorem afterCharge_on {s : State} (hl : lampOn s.lamp.state = true) :
    afterCharge s = judgeLifeLow (if s.life = .expired then enterCooldown s else s) := by
  split
  · exact afterCharge_expired ‹_› hl
  · exact afterCharge_stands ‹_›

/-- What a lamp second leaves of a burning lamp. -/
theorem lampSecond_eq {s : State} (h : lampBurning s.lamp.state = true) :
    lampSecond s =
      judgeLifeLow (if (secondWeighed s).life = .expired then enterCooldown (secondMarked s) else secondMarked s) := by
  rw [lampSecond_marked, afterCharge_on (by rw [secondMarked_lamp]; exact lampOn_of_burning h), secondMarked_life]

theorem afterCharge_record (s : State) : (afterCharge s).wear.record = s.wear.record := by
  unfold afterCharge restExpired
  rw [judgeLifeLow_wear]
  split
  · exact enterCooldown_record s
  · rfl

theorem lampSecond_record (s : State) : (lampSecond s).wear.record = (secondWeighed s).wear.record := by
  rw [lampSecond_marked, afterCharge_record, secondMarked_wear]

theorem lampBurning_iff (l : LampState) : lampBurning l = true ↔ l = .warmup ∨ l = .lit := by
  cases l <;> decide

/-! ## The sample and the trip -/

theorem thermalTrip_record (sample : Int) (s : State) : (thermalTrip sample s).wear.record = s.wear.record := by
  unfold thermalTrip
  split
  · rfl
  dsimp only
  split
  · simp [enterCooldown_record]
  split
  · simp
  · simp

theorem thermalTrip_housing (sample : Int) (s : State) : (thermalTrip sample s).lamp.housing = s.lamp.housing := by
  unfold thermalTrip
  split
  · rfl
  dsimp only
  split
  · simp [enterCooldown]
  split
  · simp
  · simp

/-- A trip extinguishes nothing where the lamp does not burn. -/
theorem thermalTrip_unlit (sample : Int) {s : State} (h : lampBurning s.lamp.state = false) :
    (thermalTrip sample s).wear = s.wear ∧ lampBurning (thermalTrip sample s).lamp.state = false := by
  unfold thermalTrip
  split
  · exact ⟨rfl, h⟩
  dsimp only
  split
  · refine ⟨?_, rfl⟩
    rw [enterCooldown_wear, latch_lamp, if_neg (by rw [h]; decide), latch_wear]
  split
  · exact ⟨latch_wear _ _ _, by simpa using h⟩
  · exact ⟨latch_wear _ _ _, by simpa using h⟩

theorem takeSample_record (sample : Int) (s : State) : (takeSample sample s).wear.record = s.wear.record := by
  unfold takeSample
  dsimp only
  split
  · exact thermalTrip_record _ _
  · rfl

theorem takeSample_housing (sample : Int) (s : State) : (takeSample sample s).lamp.housing = some sample := by
  unfold takeSample
  dsimp only
  split
  · exact thermalTrip_housing _ _
  · rfl

theorem takeSample_unlit (sample : Int) {s : State} (h : lampBurning s.lamp.state = false) :
    (takeSample sample s).wear = s.wear ∧ lampBurning (takeSample sample s).lamp.state = false := by
  unfold takeSample
  dsimp only
  split
  · exact thermalTrip_unlit _ h
  · exact ⟨rfl, h⟩

/-! ## The clock and the count -/

theorem advanceClock_eq (s : State) :
    advanceClock s = s.withSchedule
      (if s.schedule.second < 59 then { s.schedule with second := s.schedule.second + 1 }
      else if s.schedule.minute < 1439 then crossBoundary s.schedule.day (s.schedule.minute + 1) s.schedule
      else crossBoundary ((s.schedule.day + 1) % 7) 0 s.schedule) := by
  unfold advanceClock
  rw [apply_ite s.withSchedule, apply_ite s.withSchedule]

theorem countSecond_eq (s : State) :
    countSecond s = s.withLockout
      (if 59 ≤ s.lockout.minuteCount then { s.lockout with minuteCount := 0, minuteDue := true }
      else { s.lockout with minuteCount := s.lockout.minuteCount + 1 }) := by
  unfold countSecond
  rw [apply_ite s.withLockout]

/-! ## What a step keeps of the settings and of the housing sample -/

theorem enterCooldown_settings (s : State) : (enterCooldown s).store.settings = s.store.settings := by
  rw [enterCooldown_store]

theorem Change.settings {s u : State} (h : Change s u) : u.store.settings = s.store.settings := by
  cases h with
  | fault => rw [enterCooldown_settings, latch_store]
  | cool => exact enterCooldown_settings s
  | charge =>
    unfold restExpired
    split
    · exact enterCooldown_settings _
    · rfl
  | mark r => exact mark_settings r s
  | storeAside x _ _ _ hs => exact hs
  | offer f m => rw [offerMarked_store]
  | latch c d => rw [latch_store]
  | clear c => rw [clearCondition_store]
  | clash => rw [enterClash_store]
  | sends => rw [signals_store (attemptSends_signals s)]
  | fails => rw [signals_store (attemptFails_signals s)]
  | _ => rfl

theorem Changes.settings {s u : State} (h : Changes s u) : u.store.settings = s.store.settings := by
  induction h with
  | refl => rfl
  | tail _ hc ih => exact hc.settings.trans ih

theorem beginWrite_settings (s : State) : (beginWrite s).store.settings = s.store.settings := by
  rw [beginWrite_store]

theorem markedBy_settings (u t : State) : (markedBy u t).store.settings = u.store.settings := by
  unfold markedBy
  split
  · exact mark_settings _ _
  · rfl

theorem Followed.settings {before u t : State} (h : Followed before u t) :
    t.store.settings = u.store.settings := by
  by_cases hl : (markedBy u t).store.list = before.store.list
  · rw [h.quietStore hl, markedBy_settings]
  · rw [h.written hl, beginWrite_settings, markedBy_settings]

theorem Followed.housing {before u t : State} (h : Followed before u t) : t.lamp.housing = u.lamp.housing := by
  obtain e | ⟨-, -, e⟩ | ⟨-, -, e⟩ := h.lamp <;> rw [e] <;> rfl

theorem Followed.table {before u t : State} (h : Followed before u t) : t.peers.table = u.peers.table := by
  by_cases hw : watchOffers before u t
  · rw [(h.offered hw).2]
  · rw [(h.quietLine hw).2]

theorem Followed.unlit {before u t : State} (h : Followed before u t) (hl : lampBurning u.lamp.state = false) :
    t.wear = u.wear := by
  obtain e | ⟨hb, -, -⟩ := h.wear
  · exact e
  · rw [hl] at hb
    cases hb

/-! ## The tick -/

/-- The blocks that a tick's second and sample leave. -/
theorem reportSecond_keeps (s : State) :
    (reportSecond s).schedule = s.schedule ∧ (reportSecond s).lockout = s.lockout ∧
      (reportSecond s).router = s.router ∧ (reportSecond s).geometry = s.geometry ∧
      (reportSecond s).refusedTimer = s.refusedTimer ∧ (reportSecond s).now = s.now ∧
      (reportSecond s).peers = s.peers := by
  unfold reportSecond
  split
  · simp
  · simp

theorem tick_keeps (sample : Int) (s : State) :
    (tick sample s).router = s.router ∧ (tick sample s).geometry = s.geometry ∧
      (tick sample s).refusedTimer = s.refusedTimer ∧ (tick sample s).now = s.now ∧
      (tick sample s).peers = s.peers := by
  obtain ⟨-, -, hro, hg, hre, hn, hp⟩ := reportSecond_keeps (advanceExtinction s)
  unfold tick
  rw [countSecond_eq, advanceClock_eq]
  exact ⟨(takeSample_router _ _).trans hro, (takeSample_geometry _ _).trans hg, (takeSample_refusedTimer _ _).trans hre,
    (takeSample_now _ _).trans hn, (takeSample_peers _ _).trans hp⟩

/-- What stands after a tick is kept for the next second (R72). -/
theorem keepTick_stands (s : State) :
    (keepTick s).lamp.tickLamp = (keepTick s).lamp.state ∧ (keepTick s).lamp.tickMode = (keepTick s).served ∧
      (keepTick s).lamp.tickHot = (keepTick s).hot := ⟨rfl, rfl, rfl⟩

theorem tick_settings (sample : Int) (s : State) : (tick sample s).store.settings = s.store.settings :=
  (tick_changes sample s).settings

/-- Where the lamp does not burn the tick reports no second and extinguishes nothing. -/
theorem tick_unlit (sample : Int) {s : State} (h : lampBurning s.lamp.state = false) :
    (tick sample s).wear = (advanceExtinction s).wear ∧ lampBurning (tick sample s).lamp.state = false := by
  have hs : reportSecond (advanceExtinction s) = advanceExtinction s :=
    if_neg (by rw [show (advanceExtinction s).lamp = s.lamp from rfl, h]; decide)
  unfold tick
  rw [hs, countSecond_eq, advanceClock_eq]
  exact takeSample_unlit sample (s := advanceExtinction s) h

theorem tick_record (sample : Int) (s : State) :
    (tick sample s).wear.record = (reportSecond (advanceExtinction s)).wear.record := by
  unfold tick
  rw [countSecond_eq, advanceClock_eq]
  exact takeSample_record sample _

theorem tick_housing (sample : Int) (s : State) : (tick sample s).lamp.housing = some sample := by
  unfold tick
  rw [countSecond_eq, advanceClock_eq]
  exact takeSample_housing sample _

/-- Settles O45. -/
theorem tickCountsTheSecond : Obligations.TickCountsTheSecond := by
  intro sample s hr weight r burning aged weighed marked seconded sampled judged clock counted
  have hburn : lampBurning s.lamp.state = true ↔ burning := lampBurning_iff _
  have hweight : secondWeight (weightState s) s.lamp.tickHot = weight := by
    subst weight
    unfold secondWeight weightState
    by_cases hl : s.lamp.tickLamp = .lit
    · rw [if_pos hl, if_pos hl]
      cases s.lamp.tickMode <;> rfl
    · rw [if_neg hl, if_neg hl]
  have hweighed : secondWeighed aged = weighed := by
    subst weighed
    rw [← hweight]
    rfl
  have hmarked : secondMarked aged = marked := by
    subst marked
    rw [← hweighed]
    rfl
  have hseconded : reportSecond aged = seconded := by
    by_cases hb : burning
    · refine (if_pos (hburn.2 hb)).trans (Eq.trans ?_ (if_pos hb).symm)
      have hl := lampSecond_eq (s := aged) (hburn.2 hb)
      rw [hweighed, hmarked] at hl
      exact hl
    · exact (if_neg fun hc => hb (hburn.1 hc)).trans (if_neg hb).symm
  have hjudged : takeSample sample seconded = judged := rfl
  obtain ⟨hsecSched, hsecLock, -⟩ := reportSecond_keeps aged
  have htick : tick sample s = (judged.withSchedule clock).withLockout counted := by
    have hsched : judged.schedule = s.schedule := by
      rw [← hjudged, takeSample_schedule, ← hseconded, hsecSched]
      rfl
    have hlock : judged.lockout = s.lockout := by
      rw [← hjudged, takeSample_lockout, ← hseconded, hsecLock]
      rfl
    unfold tick
    rw [show advanceExtinction s = aged from rfl, hseconded, hjudged, countSecond_eq, advanceClock_eq,
      State.withSchedule_lockout, hsched, hlock]
    rfl
  have hf := settle_followed s (tick sample s)
  have hrec : (tick sample s).wear.record = if burning then weighed.wear.record else r := by
    rw [tick_record, show advanceExtinction s = aged from rfl]
    by_cases hb : burning
    · rw [if_pos hb, show reportSecond aged = lampSecond aged from if_pos (hburn.2 hb), lampSecond_record, hweighed]
    · rw [if_neg hb, show reportSecond aged = aged from if_neg fun hc => hb (hburn.1 hc)]
      rfl
  obtain ⟨hro, hg, hre, hn, hp⟩ := tick_keeps sample s
  have hexec : exec (.oneSecondTick sample) s = .next (keepTick (settle s (tick sample s))) :=
    congrArg Host.Outcome.next (if_pos hr)
  have hunlit := tick_unlit sample (s := s)
  have hset := tick_settings sample s
  have hh := tick_housing sample s
  generalize hv : settle s (tick sample s) = v at hf hexec
  generalize hu : tick sample s = u at *
  obtain ⟨hkl, hkm, hkh⟩ := keepTick_stands v
  refine ⟨v, keepTick v, htick ▸ hf, rfl, hexec, hf.housing.trans hh, hf.wearRecord.trans hrec, ?_,
    hf.schedule.trans (congrArg State.schedule htick), hf.lockout.trans (congrArg State.lockout htick), hkl, hkm, hkh,
    hf.router.trans hro, hf.geometry.trans hg, hf.refusedTimer.trans hre, hf.now.trans hn,
    hf.table.trans (congrArg Peers.table hp), hf.settings.trans hset⟩
  intro hw hl
  have hb : lampBurning s.lamp.state = false := Bool.eq_false_iff.2 fun hc => (hburn.1 hc).elim hw hl
  obtain ⟨hwear, hoff⟩ := hunlit hb
  exact congrArg Wear.sinceExtinction ((hf.unlit hoff).trans hwear)

end Sys2Proof.Machine
end

section
/-! The statements about the switcher and the warp engine (R97 to R103, R119 to R122). -/

namespace Sys2Proof.Machine

/-! ## The end of a switch -/

/-- In SWITCHING the selection stands as the switch to another target begins. -/
theorem beginSwitch_again {n : Nat} {s : State} {e : AliasEntry} (hs : s.router.selection = .switching)
    (h : s.router.lookup n = some e) :
    beginSwitch n none s = s.withRouter
      { s.router with
        current := some n
        pendingTarget := none
        inFlightPort := some e.port
        port := none
        switchTimer := some (s.now + 3000)
        searchTimer := none
        inputCommands := s.router.inputCommands + 1 } := by
  rw [beginSwitch_some h, ← hs]

theorem switcherLocks_pending {port target : Nat} {s : State} (hs : s.router.selection = .switching)
    (hp : s.router.inFlightPort = some port) (ht : s.router.pendingTarget = some target) :
    switcherLocks port s = beginSwitch target none s := by
  rw [switcherLocks, if_pos ⟨hs, hp⟩, ht]

theorem switcherLocks_last {port : Nat} {s : State} (hs : s.router.selection = .switching)
    (hp : s.router.inFlightPort = some port) (ht : s.router.pendingTarget = none) :
    switcherLocks port s = if s.router.signalOn port then settleOn (some port) s else beginSearch (some port) s := by
  rw [switcherLocks, if_pos ⟨hs, hp⟩, ht]

theorem switcherLocks_same {port : Nat} {s : State}
    (h : s.router.selection ≠ .switching ∨ s.router.inFlightPort ≠ some port) : switcherLocks port s = s :=
  if_neg fun hc => h.elim (fun hs => hs hc.1) fun hp => hp hc.2

theorem switchEnds_pending {target : Nat} {s : State} (hs : s.router.selection = .switching)
    (hr : runsOut s s.router.switchTimer = true) (ht : s.router.pendingTarget = some target) :
    switchEnds s = beginSwitch target none s := by
  rw [switchEnds, if_pos ⟨hs, hr⟩, ht]

theorem switchEnds_last {s : State} (hs : s.router.selection = .switching)
    (hr : runsOut s s.router.switchTimer = true) (ht : s.router.pendingTarget = none) :
    switchEnds s = beginSearch s.router.inFlightPort s := by
  rw [switchEnds, if_pos ⟨hs, hr⟩, ht]

theorem switchEnds_same {s : State}
    (h : s.router.selection ≠ .switching ∨ ∀ due, s.router.switchTimer = some due → s.now < due) :
    switchEnds s = s := by
  refine if_neg fun hc => h.elim (fun hs => hs hc.1) fun hd => ?_
  rw [runsOut_early hd] at hc
  exact nomatch hc.2

/-! ## Signal presence -/

theorem signalOn_fin (r : Router) (port : Fin 6) : r.signalOn (port.val + 1) = r.signal[port] := by
  unfold Router.signalOn
  rw [Nat.add_sub_cancel, List.getD_eq_getElem?_getD, List.getElem?_eq_getElem (by simp)]
  simp

/-- The view of a port replaced. -/
def withSignalAt (port : Fin 6) (present : Bool) (s : State) : State :=
  s.withRouter { s.router with signal := s.router.signal.set port present }

theorem takeSignal_repeats {port : Fin 6} {present : Bool} {s : State} (h : s.router.signal[port] = present) :
    takeSignal (port.val + 1) present s = s :=
  if_neg fun ⟨_, _, hc⟩ => hc ((signalOn_fin _ port).trans h)

/-- A changed view: what it does hangs on the port and the selection. -/
theorem takeSignal_changed {port : Fin 6} {present : Bool} {s : State} (h : s.router.signal[port] ≠ present) :
    takeSignal (port.val + 1) present s =
      if s.router.port = some (port.val + 1) then
        if s.router.selection = .settled ∧ present = false then
          beginSearch (some (port.val + 1)) (withSignalAt port present s)
        else if s.router.selection = .searching ∧ present = true then
          settleOn (some (port.val + 1)) (withSignalAt port present s)
        else withSignalAt port present s
      else withSignalAt port present s := by
  unfold takeSignal withSignalAt
  rw [if_pos ⟨Nat.le_add_left 1 _, port.isLt, by rwa [signalOn_fin]⟩, Nat.add_sub_cancel, setIfInBounds_fin]

theorem takeSignal_lost {port : Fin 6} {s : State} (h : s.router.signal[port] ≠ false)
    (hp : s.router.port = some (port.val + 1)) (hs : s.router.selection = .settled) :
    takeSignal (port.val + 1) false s = beginSearch (some (port.val + 1)) (withSignalAt port false s) := by
  rw [takeSignal_changed h, if_pos hp, if_pos ⟨hs, rfl⟩]

theorem takeSignal_appears {port : Fin 6} {s : State} (h : s.router.signal[port] ≠ true)
    (hp : s.router.port = some (port.val + 1)) (hs : s.router.selection = .searching) :
    takeSignal (port.val + 1) true s = settleOn (some (port.val + 1)) (withSignalAt port true s) := by
  rw [takeSignal_changed h, if_pos hp, if_neg (by rw [hs]; nofun), if_pos ⟨hs, rfl⟩]

theorem takeSignal_elsewhere {port : Fin 6} {present : Bool} {s : State} (h : s.router.signal[port] ≠ present)
    (hp : s.router.port = some (port.val + 1) → ¬ (s.router.selection = .settled ∧ present = false) ∧
      ¬ (s.router.selection = .searching ∧ present = true)) :
    takeSignal (port.val + 1) present s = withSignalAt port present s := by
  rw [takeSignal_changed h]
  split
  · obtain ⟨hlost, happears⟩ := hp ‹_›
    rw [if_neg hlost, if_neg happears]
  · rfl

/-- Settles O46. -/
theorem switchesEndByReportOrTimer : Obligations.SwitchesEndByReportOrTimer := by
  refine ⟨fun port s hr => ⟨fun hs hp => ⟨fun target e ht he => ?_, fun ht hon => ?_, fun ht hoff => ?_⟩, fun h => ?_⟩,
    fun due s hr hs ht hd => ⟨fun target e hp he => ?_, fun hp => ?_⟩, fun s h => command_same (switchEnds_same h),
    fun port present s hr => ⟨fun h => command_same (takeSignal_repeats h), fun h =>
      ⟨fun hp hs hl => ?_, fun hp hs hl => ?_, fun hc => ?_⟩⟩, fun s => ⟨fun hs => ?_, fun p hs hp => ?_, fun p hs hp => ?_⟩⟩
  · exact effects_of_command hr rfl ((switcherLocks_pending hs hp ht).trans (beginSwitch_again hs he))
  · exact effects_of_command hr rfl ((switcherLocks_last hs hp ht).trans (if_pos hon))
  · exact effects_of_command hr rfl ((switcherLocks_last hs hp ht).trans (if_neg (by rw [hoff]; decide)))
  · exact command_same (switcherLocks_same h)
  · exact effects_of_command hr rfl ((switchEnds_pending hs (runsOut_of_due ht hd) hp).trans (beginSwitch_again hs he))
  · exact effects_of_command hr rfl (switchEnds_last hs (runsOut_of_due ht hd) hp)
  · subst hl
    refine effects_of_command hr rfl ((takeSignal_lost h hp hs).trans ?_)
    rw [← hp]
    rfl
  · subst hl
    refine effects_of_command hr rfl ((takeSignal_appears h hp hs).trans ?_)
    rw [← hp]
    rfl
  · refine effects_of_command hr rfl (takeSignal_elsewhere h fun hp => ?_)
    obtain hc | ⟨hc, rfl⟩ | ⟨hc, rfl⟩ | hc | hc := hc
    · exact absurd hp hc
    all_goals rw [hc]; exact ⟨nofun, nofun⟩
  · rw [State.switcherInput, hs]
  · rw [State.switcherInput, hs, hp]
  · obtain hs | hs := hs <;> rw [State.switcherInput, hs, hp]

/-! ## The search -/

theorem fallbackChain_ends {r : Router} {hops source : Nat} {n : AliasEntry} (hn : r.lookup source = some n)
    (h : n.fallback = none ∨ ∃ f, n.fallback = some f ∧ r.lookup f = none) : fallbackChain r (hops + 1) source = none := by
  rw [fallbackChain, hn]
  obtain h | ⟨f, h, hf⟩ := h
  · simp only [h]
  · simp only [h, hf]

/-- A hop to an entry: it is chosen where its port has signal, and the chain goes on from it otherwise. -/
theorem fallbackChain_hop {r : Router} {hops source next : Nat} {n e : AliasEntry} (hn : r.lookup source = some n)
    (h : n.fallback = some next) (he : r.lookup next = some e) :
    fallbackChain r (hops + 1) source = if r.signalOn e.port then some next else fallbackChain r hops next := by
  rw [fallbackChain, hn]
  simp only [h, he]

theorem fallbackChain_found {r : Router} {hops source next : Nat} {n e : AliasEntry} (hn : r.lookup source = some n)
    (h : n.fallback = some next) (he : r.lookup next = some e) (hs : r.signalOn e.port = true) :
    fallbackChain r (hops + 1) source = some next := (fallbackChain_hop hn h he).trans (if_pos hs)

theorem fallbackChain_passes {r : Router} {hops source next : Nat} {n e : AliasEntry} (hn : r.lookup source = some n)
    (h : n.fallback = some next) (he : r.lookup next = some e) (hs : r.signalOn e.port = false) :
    fallbackChain r (hops + 1) source = fallbackChain r hops next :=
  (fallbackChain_hop hn h he).trans (if_neg (by rw [hs]; decide))

theorem searchEnds_same {s : State}
    (h : s.router.selection ≠ .searching ∨ ∀ due, s.router.searchTimer = some due → s.now < due) :
    searchEnds s = s := by
  refine if_neg fun hc => h.elim (fun hs => hs hc.1) fun hd => ?_
  rw [runsOut_early hd] at hc
  exact nomatch hc.2

section Search

variable {source port : Nat} {s : State} (hs : s.router.selection = .searching)
  (ht : runsOut s s.router.searchTimer = true) (hc : s.router.current = some source) (hp : s.router.port = some port)
include hs ht hc hp

theorem searchEnds_stays (h : fallbackChain s.router 3 source = none) :
    searchEnds s = (latch .noSignal (source * 256 + port) s).withRouter
      { s.router with searchTimer := some (s.now + 10000) } := by
  rw [searchEnds, if_pos ⟨hs, ht⟩, noSignalDetail, hc, hp, Option.getD_some, Option.getD_some, Config.fallbackHops, h]
  dsimp only
  rw [latch_router]
  rfl

theorem searchEnds_switches {next : Nat} {e : AliasEntry} (h : fallbackChain s.router 3 source = some next)
    (he : s.router.lookup next = some e) :
    searchEnds s = (latch .noSignal (source * 256 + port) s).withRouter
      { s.router with
        selection := .switching
        current := some next
        pendingTarget := none
        inFlightPort := some e.port
        port := none
        switchTimer := some (s.now + 3000)
        searchTimer := none
        inputCommands := s.router.inputCommands + 1 } := by
  rw [searchEnds, if_pos ⟨hs, ht⟩, noSignalDetail, hc, hp, Option.getD_some, Option.getD_some, Config.fallbackHops, h]
  have hl : (latch .noSignal (source * 256 + port) s).router.lookup next = some e := by rwa [latch_router]
  refine (beginSwitch_some hl).trans ?_
  rw [latch_router, latch_now]

end Search

/-- Settles O47: the chain is followed hop by hop. -/
theorem searchTimerTriesTheFallbacks : Obligations.SearchTimerTriesTheFallbacks := by
  refine ⟨fun s h => command_same (searchEnds_same h), fun n e1 source port due s hr hs ht hd hc hp hn => ?_⟩
  intro latched switched stays
  have hout := runsOut_of_due ht hd
  have stay (h : fallbackChain s.router 3 source = none) : Effects .searchTimer s stays :=
    effects_of_command hr rfl (searchEnds_stays hs hout hc hp h)
  have switch {m : Nat} {e : AliasEntry} (h : fallbackChain s.router 3 source = some m)
      (he : s.router.lookup m = some e) : Effects .searchTimer s (switched m e.port) :=
    effects_of_command hr rfl (searchEnds_switches hs hout hc hp h he)
  refine ⟨fun h => stay (fallbackChain_ends hn (.inl h)), fun f1 h hl => stay (fallbackChain_ends hn (.inr ⟨f1, h, hl⟩)),
    fun f1 h h1 hon => switch (fallbackChain_found hn h h1 hon) h1, fun f1 f2 e2 h h1 ho1 h' h2 hon => ?_,
    fun f1 h h1 ho1 hend => ?_, fun f1 f2 e2 h h1 ho1 h' h2 ho2 hend => ?_, fun f1 f2 f3 e2 e3 h h1 ho1 h' h2 ho2 h'' h3 => ?_⟩
  · exact switch ((fallbackChain_passes hn h h1 ho1).trans (fallbackChain_found h1 h' h2 hon)) h2
  · exact stay ((fallbackChain_passes hn h h1 ho1).trans (fallbackChain_ends h1 hend))
  · exact stay ((fallbackChain_passes hn h h1 ho1).trans
      ((fallbackChain_passes h1 h' h2 ho2).trans (fallbackChain_ends h2 hend)))
  · have hchain : fallbackChain s.router 3 source = if s.router.signalOn e3.port then some f3 else none :=
      (fallbackChain_passes hn h h1 ho1).trans
        ((fallbackChain_passes h1 h' h2 ho2).trans (fallbackChain_hop (hops := 0) h2 h'' h3))
    split
    · exact switch (hchain.trans (if_pos ‹_›)) h3
    · exact stay (hchain.trans (if_neg ‹_›))

/-! ## The handoff -/

theorem endHandoff_sends {c : CornerSet} {s : State} (h : s.geometry.pendingSet = some c) :
    endHandoff s = sendCorners c (s.withGeometry { s.geometry with pendingSet := none }) := by
  rw [endHandoff, h]

theorem endHandoff_idle {s : State} (h : s.geometry.pendingSet = none) :
    endHandoff s = s.withGeometry { s.geometry with inFlight := none, timer := none } := by
  rw [endHandoff, h]

theorem takeApplied_same {number : Nat} {s : State} (h : ∀ f, s.geometry.inFlight = some f → f.number ≠ number) :
    takeApplied number s = s := by
  unfold takeApplied
  split
  · exact if_neg (h _ ‹_›)
  · rfl

theorem takeApplied_ends {f : FlightSet} {s : State} (h : s.geometry.inFlight = some f) :
    takeApplied f.number s = endHandoff s := by
  rw [takeApplied, h]
  exact if_pos rfl

theorem handoffEnds_idle {s : State} (h : s.geometry.inFlight = none) : handoffEnds s = s := by
  rw [handoffEnds, h]

theorem handoffEnds_early {s : State} (h : ∀ due, s.geometry.timer = some due → s.now < due) : handoffEnds s = s := by
  unfold handoffEnds
  split
  · exact if_neg (by rw [runsOut_early h]; decide)
  · rfl

theorem handoffEnds_silent {f : FlightSet} {s : State} (h : s.geometry.inFlight = some f)
    (hr : runsOut s s.geometry.timer = true) : handoffEnds s = takeSilence f s := by
  rw [handoffEnds, h]
  exact if_pos hr

theorem takeSilence_again {f : FlightSet} {s : State} (h : f.sends = 1) :
    takeSilence f s = s.withGeometry
      { s.geometry with inFlight := some { f with sends := 2 }, timer := some (s.now + 200) } := if_pos h

theorem takeSilence_fault {f : FlightSet} {s : State} (h : f.sends ≠ 1) :
    takeSilence f s = endHandoff (latch .geometryFault (pairDetail f.corners.pair) s) := if_neg h

/-- The geometry is nothing that is followed. -/
theorem command_geometry {f : State → State} {s : State} {x : Geometry} (hr : s.released = true)
    (e : f s = s.withGeometry x) : command f s = .next (s.withGeometry x) := command_next hr e rfl rfl rfl

/-- Settles O48. -/
theorem handoffEndsOrRepeats : Obligations.HandoffEndsOrRepeats := by
  refine ⟨fun number s h => ⟨command_same (takeApplied_same (by rw [h]; nofun)), command_same (handoffEnds_idle h)⟩,
    fun number f s hr hf => ?_⟩
  intro ended
  have hend (u : State) (hg : u.geometry = s.geometry) (hn : u.now = s.now) :
      endHandoff u = u.withGeometry (ended s.geometry) := by
    subst ended
    cases hp : s.geometry.pendingSet with
    | none =>
      rw [endHandoff_idle (by rw [hg]; exact hp), hg]
      simp only [hp]
    | some c =>
      rw [endHandoff_sends (by rw [hg]; exact hp), hg]
      simp only [hp]
      unfold sendCorners
      rw [← hg, ← hn]
      rfl
  refine ⟨fun h => command_geometry hr ?_, fun h => command_same (takeApplied_same fun g hg => ?_),
    fun due ht hd h1 => command_geometry hr ?_, fun h => command_same (handoffEnds_early h), fun due ht hd h1 => ?_⟩
  · rw [← h, takeApplied_ends hf, hend s rfl rfl]
  · rw [hf] at hg
    cases hg
    exact h
  · rw [handoffEnds_silent hf (runsOut_of_due ht hd), takeSilence_again h1]
  · refine effects_of_command hr rfl ?_
    rw [handoffEnds_silent hf (runsOut_of_due ht hd), takeSilence_fault h1,
      hend _ (latch_geometry _ _ _) (latch_now _ _ _)]
    rfl

end Sys2Proof.Machine
end

section
/-! The statements about Shared Duty (R160 to R169). -/

namespace Sys2Proof.Machine

/-! ## The ranking -/

theorem rankedBefore_iff (a b : Candidate) :
    rankedBefore a b = true ↔
      (lampOn a.lamp = true ∧ lampOn b.lamp = false) ∨
        (lampOn a.lamp = lampOn b.lamp ∧
          (b.wearKey < a.wearKey ∨ (a.wearKey = b.wearKey ∧ a.address < b.address))) := by
  unfold rankedBefore
  by_cases hl : lampOn a.lamp = lampOn b.lamp
  · by_cases hk : a.wearKey = b.wearKey
    · simp [hl, hk]
    · simp [hl, hk]
  · cases ha : lampOn a.lamp <;> cases hb : lampOn b.lamp <;> simp_all

theorem rankedBefore_total {a b : Candidate} (h : a.address ≠ b.address) :
    rankedBefore a b = true ↔ rankedBefore b a = false := by
  rw [← Bool.not_eq_true, rankedBefore_iff, rankedBefore_iff]
  cases lampOn a.lamp <;> cases lampOn b.lamp <;> simp <;> omega

theorem rankedBefore_trans {a b c : Candidate} (hab : rankedBefore a b = true) (hbc : rankedBefore b c = true) :
    rankedBefore a c = true := by
  rw [rankedBefore_iff] at *
  cases ha : lampOn a.lamp <;> cases hb : lampOn b.lamp <;> cases hc : lampOn c.lamp <;> simp [ha, hb, hc] at * <;> omega

theorem rankedBefore_irrefl (a : Candidate) : rankedBefore a a = false := by
  rw [← Bool.not_eq_true, rankedBefore_iff]
  simp

/-! ## Offer and decision -/

theorem offerNow_eq_some (s : State) (g : Nat) :
    s.offerNow = some g ↔
      s.line.state = .active ∧ s.duty.entryGroup = some g ∧ s.latched .ignitionFailed = false ∧
        s.latched .thermalTrip = false ∧ s.latched .lampOut = false ∧ s.life ≠ .lifeOut ∧ s.life ≠ .expired ∧
        s.duty.declined = false ∧ s.lamp.state ≠ .cooldown := by
  unfold State.offerNow State.lampFaulted
  simp only [Option.ite_none_right_eq_some, Bool.or_eq_false_iff]
  tauto

/-- The decision of a station that holds an offer. -/
theorem decision_of_offer {s : State} {g : Nat} (h : s.duty.offer = some g) :
    s.decision = if s.ownCandidate.isCounted then .counted else if s.rank g < s.dutySlots g then .on else .off := by
  rw [State.decision, h]

theorem isCounted_iff (c : Candidate) : c.isCounted = true ↔ c.cause = .order ∨ c.cause = .key := by
  simp [Candidate.isCounted]

theorem decision_counted_iff {s : State} {g : Nat} (h : s.duty.offer = some g) :
    s.decision = .counted ↔ s.ownCandidate.isCounted = true := by
  rw [decision_of_offer h]
  split
  · simp [*]
  · split <;> simp [*]

theorem decision_on_of_offer {s : State} {g : Nat} (h : s.duty.offer = some g) :
    s.decision = .on ↔ ¬ s.ownCandidate.isCounted = true ∧ s.rank g < s.dutySlots g := by
  rw [decision_of_offer h]
  split
  · simp [*]
  · split <;> simp [*]

theorem decision_none {s : State} (h : s.duty.offer = none) : s.decision = .noDuty := by rw [State.decision, h]

/-- The slots are the demand less the counted candidates. -/
theorem dutySlots_eq (s : State) (g : Nat) :
    s.dutySlots g =
      s.duty.entryDemand.getD 0 - ((s.ownCandidate :: s.peerCandidates g).filter Candidate.isCounted).length := by
  rw [State.dutySlots, List.countP_eq_length_filter]

/-- Settles O49. -/
theorem dutyIsRankedAndDecided : Obligations.DutyIsRankedAndDecided := by
  refine ⟨fun a b ha hb => (rankedBefore_iff a b).2 (.inl ⟨ha, hb⟩),
    fun a b hl hw => (rankedBefore_iff a b).2 (.inr ⟨hl, .inl hw⟩),
    fun a b hl hw ha => (rankedBefore_iff a b).2 (.inr ⟨hl, .inr ⟨hw, ha⟩⟩), fun a b => rankedBefore_total,
    fun a b c => rankedBefore_trans, rankedBefore_irrefl, fun s => ⟨offerNow_eq_some s, fun g hg => ?_, decision_none⟩⟩
  intro own peers k ahead
  refine ⟨(decision_counted_iff hg).trans (isCounted_iff own), (decision_on_of_offer hg).trans ?_⟩
  rw [show (deriveOffer s).ownCandidate = own from rfl, isCounted_iff, not_or, and_assoc, dutySlots_eq]
  rfl

/-! ## The action of a decision -/

/-- The decision asks the lamp for nothing and the holdoff stops (R166). -/
theorem actOnDecision_stops {b : Bool} {s : State}
    (h : (s.decision = .on ∧ s.lamp.state ≠ .dark) ∨ s.decision = .counted ∨
      ((s.decision = .off ∨ s.decision = .noDuty) ∧ (lampOn s.lamp.state = false ∨ s.lamp.cause ≠ .schedule))) :
    actOnDecision b s = stopHoldoff s := by
  have hrelease (hl : lampOn s.lamp.state = false ∨ s.lamp.cause ≠ .schedule) :
      release (stopHoldoff s) = stopHoldoff s := by
    refine if_neg fun ⟨hon, hc⟩ => hl.elim (fun h => ?_) fun h => h hc
    rw [show (stopHoldoff s).lamp = s.lamp from rfl, h] at hon
    cases hon
  unfold actOnDecision
  obtain ⟨hd, hl⟩ | hd | ⟨hd | hd, hl⟩ := h
  · rw [hd]
    exact if_neg hl
  · rw [hd]
  · rw [hd]
    exact hrelease hl
  · rw [hd]
    exact hrelease hl

/-- A strike is asked for and granted (R166, R167). -/
theorem actOnDecision_strikes {b : Bool} {s : State} (hd : s.decision = .on) (hl : s.lamp.state = .dark)
    (hb : s.barred = false) (h : b = true ∨ s.darkRank (s.duty.offer.getD 0) = 0) :
    actOnDecision b s = enterPreheat .schedule (stopHoldoff s) := by
  unfold actOnDecision
  rw [hd]
  dsimp only
  rw [if_pos hl, if_pos (by rcases h with h | h <;> simp [h])]
  exact if_pos ⟨hl, hb⟩

/-- A station with dark candidates ahead runs the holdoff (R167). -/
theorem actOnDecision_holds {s : State} (hd : s.decision = .on) (hl : s.lamp.state = .dark)
    (h : s.darkRank (s.duty.offer.getD 0) ≠ 0) :
    actOnDecision false s = runHoldoff (s.darkRank (s.duty.offer.getD 0)) s := by
  unfold actOnDecision
  rw [hd]
  dsimp only
  rw [if_pos hl, if_neg (by simp [h])]

/-- A lamp lit by the schedule is released (R66, R166). -/
theorem actOnDecision_releases {b : Bool} {s : State} (hd : s.decision = .off ∨ s.decision = .noDuty)
    (hl : lampOn s.lamp.state = true) (hc : s.lamp.cause = .schedule) :
    actOnDecision b s = enterCooldown (stopHoldoff s) := by
  have hr : release (stopHoldoff s) = enterCooldown (stopHoldoff s) := if_pos ⟨hl, hc⟩
  unfold actOnDecision
  obtain hd | hd := hd
  · rw [hd]
    exact hr
  · rw [hd]
    exact hr

/-! ## An evaluation -/

theorem evaluateChain_still {n : Nat} {s : State} (h : (evaluateOnce false s).lamp.state = s.lamp.state) :
    evaluateChain (n + 1) s = evaluateOnce false s := if_pos h

theorem evaluateChain_moved {n : Nat} {s : State} (h : (evaluateOnce false s).lamp.state ≠ s.lamp.state) :
    evaluateChain (n + 1) s = evaluateChain n (evaluateOnce false s) := if_neg h

/-- Where an evaluation asks the lamp for nothing, it is the whole chain. -/
theorem evaluate_stops {s : State}
    (h : ((deriveOffer s).decision = .on ∧ s.lamp.state ≠ .dark) ∨ (deriveOffer s).decision = .counted ∨
      (((deriveOffer s).decision = .off ∨ (deriveOffer s).decision = .noDuty) ∧
        (lampOn s.lamp.state = false ∨ s.lamp.cause ≠ .schedule))) :
    evaluate s = s.withDuty { s.duty with offer := s.offerNow, holdoff := none } := by
  have hone : evaluateOnce false s = stopHoldoff (deriveOffer s) := actOnDecision_stops h
  exact (evaluateChain_still (by rw [hone]; rfl)).trans hone

/-- The state after a strike by duty. -/
def dutyStruck (s : State) : State := enterPreheat .schedule (s.withDuty (dutyWith s s.offerNow none))

theorem dutyStruck_evaluated {s : State} (hd : (deriveOffer s).decision = .on) (hl : s.lamp.state = .dark) :
    evaluate (dutyStruck s) =
      (dutyStruck s).withDuty { s.duty with offer := (dutyStruck s).offerNow, holdoff := none } :=
  evaluate_stops (.inl ⟨(decision_after_strike hd hl none).2, nofun⟩)

theorem evaluateOnce_strikes {b : Bool} {s : State} (hd : (deriveOffer s).decision = .on) (hl : s.lamp.state = .dark)
    (hb : s.barred = false) (h : b = true ∨ (deriveOffer s).darkRank (s.offerNow.getD 0) = 0) :
    evaluateOnce b s = dutyStruck s := actOnDecision_strikes hd hl hb h

theorem evaluate_strikes {s : State} (hd : (deriveOffer s).decision = .on) (hl : s.lamp.state = .dark)
    (hb : s.barred = false) (h : (deriveOffer s).darkRank (s.offerNow.getD 0) = 0) :
    evaluate s = (dutyStruck s).withDuty { s.duty with offer := (dutyStruck s).offerNow, holdoff := none } := by
  have hone : evaluateOnce false s = dutyStruck s := evaluateOnce_strikes hd hl hb (.inr h)
  have hmoved : (evaluateOnce false s).lamp.state ≠ s.lamp.state := by
    rw [hone, hl]
    nofun
  have hagain : evaluateOnce false (dutyStruck s) =
      (dutyStruck s).withDuty { s.duty with offer := (dutyStruck s).offerNow, holdoff := none } :=
    actOnDecision_stops (.inl ⟨(decision_after_strike hd hl none).2, nofun⟩)
  have hstill : (evaluateOnce false (dutyStruck s)).lamp.state = (dutyStruck s).lamp.state := by rw [hagain]; rfl
  rw [evaluate, evaluateChain_moved hmoved, hone, evaluateChain_still hstill, hagain]

theorem evaluate_releases {s : State} (hd : (deriveOffer s).decision = .off ∨ (deriveOffer s).decision = .noDuty)
    (hl : lampOn s.lamp.state = true) (hc : s.lamp.cause = .schedule) :
    evaluate s = (enterCooldown s).withDuty { s.duty with offer := none, holdoff := none } := by
  have hone : evaluateOnce false s = enterCooldown (stopHoldoff (deriveOffer s)) := actOnDecision_releases hd hl hc
  have hstop : stopHoldoff (deriveOffer s) = s.withDuty (dutyWith s s.offerNow none) := rfl
  have hmoved : (evaluateOnce false s).lamp.state ≠ s.lamp.state := by
    rw [hone]
    intro h
    rw [← h] at hl
    cases hl
  have hagain := evaluateOnce_of_cooldown false (s := enterCooldown (stopHoldoff (deriveOffer s))) rfl
  have hstill : (evaluateOnce false (enterCooldown (stopHoldoff (deriveOffer s)))).lamp.state =
      (enterCooldown (stopHoldoff (deriveOffer s))).lamp.state := by rw [hagain]; rfl
  rw [evaluate, evaluateChain_moved hmoved, hone, evaluateChain_still hstill, hagain, hstop, enterCooldown_withDuty]
  rfl

theorem evaluate_holds {s : State} (hd : (deriveOffer s).decision = .on) (hl : s.lamp.state = .dark)
    (h : (deriveOffer s).darkRank (s.offerNow.getD 0) ≠ 0) :
    evaluate s = runHoldoff ((deriveOffer s).darkRank (s.offerNow.getD 0)) (deriveOffer s) := by
  have hone : evaluateOnce false s = runHoldoff ((deriveOffer s).darkRank (s.offerNow.getD 0)) (deriveOffer s) :=
    actOnDecision_holds hd hl h
  refine (evaluateChain_still ?_).trans hone
  obtain ⟨x, hx⟩ := runHoldoff_eq ((deriveOffer s).darkRank (s.offerNow.getD 0)) (deriveOffer s)
  rw [hone, hx]
  rfl

/-- The dark candidates ranked ahead are counted among the peers (R165). -/
theorem darkRank_eq (s : State) (g : Nat) :
    (deriveOffer s).darkRank g =
      (s.peerCandidates g).countP fun c => !c.isCounted && !lampOn c.lamp && rankedBefore c s.ownCandidate := by
  rw [State.darkRank, State.ahead, List.countP_filter]
  refine List.countP_congr fun c _ => ?_
  simp only [Bool.and_eq_true]
  exact ⟨fun ⟨hl, hc, hr⟩ => ⟨⟨hc, hl⟩, hr⟩, fun ⟨⟨hc, hl⟩, hr⟩ => ⟨hl, hc, hr⟩⟩

/-! ## The holdoff -/

theorem holdoffEnds_due {h : Holdoff} {s : State} (hh : s.duty.holdoff = some h) (hd : h.due ≤ s.now) :
    holdoffEnds s = evaluateOnce true (stopHoldoff s) :=
  if_pos (runsOut_of_due (by rw [hh]; rfl) hd)

theorem holdoffEnds_early {s : State} (h : ∀ x, s.duty.holdoff = some x → s.now < x.due) : holdoffEnds s = s := by
  refine if_neg ?_
  rw [runsOut_early]
  · decide
  · intro due hdue
    obtain ⟨x, hx, rfl⟩ := Option.map_eq_some_iff.1 hdue
    exact h x hx

/-- A dark lamp is asked for nothing where the station is not decided ON. -/
theorem evaluateOnce_rests {b : Bool} {s : State} (hd : (deriveOffer s).decision ≠ .on) (hl : s.lamp.state = .dark) :
    evaluateOnce b s = s.withDuty { s.duty with offer := s.offerNow, holdoff := none } := by
  have hoff : lampOn (deriveOffer s).lamp.state = false := by
    rw [show (deriveOffer s).lamp = s.lamp from rfl, hl]
    rfl
  refine actOnDecision_stops (s := deriveOffer s) ?_
  cases h : (deriveOffer s).decision with
  | on => exact absurd h hd
  | counted => exact .inr (.inl rfl)
  | off => exact .inr (.inr ⟨.inl rfl, .inl hoff⟩)
  | noDuty => exact .inr (.inr ⟨.inr rfl, .inl hoff⟩)

/-- What follows a strike by duty in its event leaves it (R169). -/
theorem Followed.dutyStruck {s v t : State} (hf : Followed s (dutyStruck v) t)
    (hd : (deriveOffer v).decision = .on) (hl : v.lamp.state = .dark) (hst : v.store = s.store) :
    t.duty.holdoff = none ∧ t.lamp = (Machine.dutyStruck v).lamp ∧ t.wear = v.wear ∧ t.store = v.store := by
  have hstore : t.store = v.store := by
    have hm : markedBy (Machine.dutyStruck v) t = Machine.dutyStruck v := if_neg nofun
    rw [hf.quietStore (by rw [hm, ← hst]; rfl), hm]
    rfl
  have hwear : t.wear = v.wear := hf.unlit rfl
  by_cases hq : (Machine.dutyStruck v).dutySources = s.dutySources
  · obtain ⟨hlamp, -, hduty⟩ := hf.quietDuty hq
    exact ⟨by rw [hduty]; rfl, hlamp, hwear, hstore⟩
  · obtain ⟨hlamp, -, hduty⟩ := hf.evaluated hq
    rw [dutyStruck_evaluated hd hl] at hlamp hduty
    exact ⟨by rw [hduty]; rfl, hlamp, hwear, hstore⟩

theorem runHoldoff_none {d : Nat} {s : State} (h : s.duty.holdoff = none) :
    (runHoldoff d s).duty.holdoff = some { length := d, due := s.now + d * 1000 } := by
  rw [runHoldoff, h]
  rfl

theorem runHoldoff_running {d : Nat} {s : State} {x : Holdoff} (h : s.duty.holdoff = some x) :
    (runHoldoff d s).duty.holdoff =
      if x.length = d then some x else some { length := d, due := s.now + d * 1000 } := by
  rw [runHoldoff, h]
  dsimp only
  by_cases hd : x.length = d
  · rw [if_pos hd, if_pos hd, h]
  · rw [if_neg hd, if_neg hd]
    rfl

/-- Settles O50. -/
theorem holdoffSpacesTheStrikes : Obligations.HoldoffSpacesTheStrikes := by
  refine ⟨fun h s hr hh hd hl hb hon => ?_, fun h s hr hh hd hl hn => ?_, fun s h => command_same (holdoffEnds_early h),
    fun g s hl hb hon hg => ?_, fun s => evaluate_releases, fun s => evaluate_stops⟩
  · have hstrikes : evaluateOnce true (stopHoldoff s) = dutyStruck (stopHoldoff s) :=
      evaluateOnce_strikes hon hl hb (.inl rfl)
    obtain ⟨t, ht, hf⟩ := effects_of_command (c := .strikeHoldoff) hr rfl ((holdoffEnds_due hh hd).trans hstrikes)
    obtain ⟨hholdoff, hlamp, hwear, hstore⟩ := hf.dutyStruck hon hl rfl
    exact ⟨t, ht, hholdoff, hlamp, hwear, hf.router, hstore, hf.conditions⟩
  · exact effects_of_command hr rfl ((holdoffEnds_due hh hd).trans (evaluateOnce_rests (s := stopHoldoff s) hn hl))
  · intro d
    have hrank : (deriveOffer s).darkRank (s.offerNow.getD 0) = d := by
      rw [hg]
      exact darkRank_eq s g
    refine ⟨fun h0 => ?_, fun h0 => ?_⟩
    · rw [evaluate_strikes hon hl hb (hrank.trans h0)]
      exact ⟨rfl, rfl, rfl⟩
    · rw [evaluate_holds hon hl (by rwa [hrank]), hrank, runHoldoff_lamp]
      refine ⟨rfl, ?_⟩
      cases hh : s.duty.holdoff with
      | none => exact runHoldoff_none (s := deriveOffer s) hh
      | some x => exact runHoldoff_running (s := deriveOffer s) hh

end Sys2Proof.Machine
end

section
/-! The statement about the write-back list (R178, R179). -/

namespace Sys2Proof.Machine

/-! ## The list -/

theorem beginWrite_takes {r : RecordId} {rest : List RecordId} {s : State} (hf : s.store.inFlight = none)
    (hi : 51 ≤ s.store.loadIndex) (hl : s.store.list = r :: rest) :
    beginWrite s = s.withStore
      { s.store with
        list := rest
        inFlight := some { record := r, bytes := withCheck (recordContent s r), due := s.now + 50 } } := by
  rw [beginWrite, hf, hl]
  exact if_pos (decide_eq_true hi)

theorem beginWrite_waits {s : State}
    (h : s.store.inFlight ≠ none ∨ s.store.loadIndex < 51 ∨ s.store.list = []) : beginWrite s = s := by
  unfold beginWrite
  split
  · rename_i hf hl
    refine if_neg fun hi => ?_
    obtain h | h | h := h
    · exact h hf
    · exact Nat.not_le.2 h (of_decide_eq_true hi)
    · rw [h] at hl
      cases hl
  · rfl

/-! ## The end of a write -/

theorem writeConfirms_ends {w : WriteInFlight} {s : State} (h : s.store.inFlight = some w) (hd : s.now ≤ w.due) :
    writeConfirms false s =
      beginWrite (s.withStore { s.store with inFlight := none, retry := dropRetry w.record s.store.retry }) := by
  rw [writeConfirms, h]
  exact if_pos ⟨rfl, hd⟩

theorem writeConfirms_same {late : Bool} {s : State}
    (h : ∀ w, s.store.inFlight = some w → late = true ∨ w.due < s.now) : writeConfirms late s = s := by
  unfold writeConfirms
  split
  · rfl
  · refine if_neg fun ⟨hl, hd⟩ => (h _ ‹_›).elim (fun hc => ?_) fun hc => absurd hd (Nat.not_le.2 hc)
    rw [hl] at hc
    cases hc

theorem writeFails_same {s : State} (h : ∀ w, s.store.inFlight = some w → s.now < w.due) : writeFails s = s := by
  unfold writeFails
  split
  · rfl
  · exact if_neg (Nat.not_le.2 (h _ ‹_›))

theorem writeFails_due {w : WriteInFlight} {s : State} (h : s.store.inFlight = some w) (hd : w.due ≤ s.now) :
    writeFails s = takeFailure w s := by
  rw [writeFails, h]
  exact if_pos hd

/-- The write in flight is no part of what a notice looks at. -/
theorem latch_withoutFlight (c : Condition) (detail : Nat) (s : State) :
    latch c detail (s.withStore { s.store with inFlight := none }) =
      (latch c detail s).withStore { s.store with inFlight := none } := by
  have hg : Aside fun u => u.withStore { u.store with inFlight := none } :=
    ⟨fun _ => rfl, fun _ => rfl, fun _ _ => rfl, fun _ _ => rfl, fun _ _ => rfl⟩
  refine (hg.latch c detail s).trans ?_
  dsimp only
  rw [latch_store]

/-- A first failure sets the record's retry flag and marks it again; a second clears the flag (R179). -/
theorem takeFailure_first {w : WriteInFlight} {s : State} (h : w.record ∉ s.store.retry) :
    takeFailure w s =
      beginWrite (mark w.record ((latch .storeFault (storeDetail w.record true) s).withStore
        { s.store with inFlight := none, retry := w.record :: s.store.retry })) := by
  unfold takeFailure
  rw [latch_withoutFlight]
  exact if_neg h

theorem takeFailure_second {w : WriteInFlight} {s : State} (h : w.record ∈ s.store.retry) :
    takeFailure w s =
      beginWrite ((latch .storeFault (storeDetail w.record true) s).withStore
        { s.store with inFlight := none, retry := dropRetry w.record s.store.retry }) := by
  unfold takeFailure
  rw [latch_withoutFlight]
  exact if_pos h

/-- Settles O52. -/
theorem writesFollowTheList : Obligations.WritesFollowTheList := by
  refine ⟨fun r s => rfl, fun s => ⟨fun r rest hf hi hl => beginWrite_takes hf hi hl, beginWrite_waits⟩,
    fun w s hr hw => ⟨fun hd => effects_of_command hr rfl (writeConfirms_ends hw hd), fun hd => ?_, fun hd => ?_,
      fun hd hn => ?_, fun hd hm => ?_⟩, fun s => command_same (writeConfirms_same fun _ _ => .inl rfl),
    fun s hn => ⟨command_same (writeConfirms_same ?_), command_same (writeFails_same ?_)⟩⟩
  · refine command_same (writeConfirms_same fun x hx => .inr ?_)
    rw [hw] at hx
    cases hx
    exact hd
  · refine command_same (writeFails_same fun x hx => ?_)
    rw [hw] at hx
    cases hx
    exact hd
  · exact effects_of_command hr rfl ((writeFails_due hw hd).trans (takeFailure_first hn))
  · exact effects_of_command hr rfl ((writeFails_due hw hd).trans (takeFailure_second hm))
  · rw [hn]
    nofun
  · rw [hn]
    nofun

end Sys2Proof.Machine
end

section
/-! The statement that stored records survive their bytes (R89, R113, R127, R151, R177, R181). -/

namespace Sys2Proof.Machine

/-! ## The check byte -/

theorem checkedContent_withCheck (content : List Byte) : checkedContent (withCheck content) = some content := by
  simp [checkedContent, withCheck]

/-! ## Numbers and signed bytes -/

theorem bytesOf_four (n : Nat) :
    bytesOf 4 n = [byteOf (n / 16777216), byteOf (n / 65536), byteOf (n / 256), byteOf n] := by simp [bytesOf]

theorem numberOf_bytes_two {n : Nat} (h : n < 65536) : numberOf [byteOf (n / 256), byteOf n] = n := by
  rw [← bytesOf_two, numberOf_bytesOf_two h]

theorem numberOf_bytes_four {n : Nat} (h : n ≤ 4294967295) :
    numberOf [byteOf (n / 16777216), byteOf (n / 65536), byteOf (n / 256), byteOf n] = n := by
  simp only [numberOf, List.foldl_cons, List.foldl_nil, byteOf_toNat_mod]
  omega

theorem signedByteOf_toInt {x : Int} (h : x.natAbs ≤ 127) : (signedByteOf x).toInt = x := by
  rw [signedByteOf, BitVec.toInt_ofInt, Int.bmod_eq_of_le] <;> omega

theorem keystoneOf_bytes {k : Keystone} (h : k.ok = true) :
    keystoneOf (signedByteOf k.kv) (signedByteOf k.kh) = k := by
  simp only [Keystone.ok, decide_eq_true_eq] at h
  rw [keystoneOf, signedByteOf_toInt (by omega), signedByteOf_toInt (by omega)]

theorem ofZeroAbsent_byteOf {x : Option Nat} (h : ∀ n, x = some n → 1 ≤ n ∧ n < 256) :
    ofZeroAbsent (byteOf (zeroAbsent x)).toNat = x := by
  cases x with
  | none => rfl
  | some n =>
    obtain ⟨h1, h2⟩ := h n rfl
    rw [zeroAbsent, Option.getD_some, byteOf_toNat h2, ofZeroAbsent, if_neg (by omega)]

theorem topAbsent_mode (x : Option PowerMode) :
    modeOfCode (byteOf (topAbsent (x.map modeCode))).toNat = x ∧
      (byteOf (topAbsent (x.map modeCode)) == 255 || x.isSome) = true := by
  cases x with
  | none => decide
  | some mode => cases mode <;> decide

/-! ## Labels -/

theorem labelForm_labelBytes {label : List Byte} (hl : label.length ≤ 8) (hp : label.all printable = true) :
    labelForm (labelBytes label) = true := by
  simp only [labelForm, labelBytes, byteOf_toNat (show label.length < 256 by omega), Bool.and_eq_true,
    decide_eq_true_eq, beq_self_eq_true, and_true]
  exact ⟨hl, hp⟩

/-! ## Settings -/

theorem settingsBytes_eq (x : Settings) :
    settingsBytes x =
      [x.groups, x.cueSend, x.follow, byteOf (x.ratedHours / 256), byteOf x.ratedHours, byteOf (x.marginHours / 256),
        byteOf x.marginHours, byteOf (x.overrunHours / 256), byteOf x.overrunHours, byteOf x.preheat, byteOf x.warmup,
        byteOf (x.cooldown / 256), byteOf x.cooldown, byteOf (x.rasterWidth / 256), byteOf x.rasterWidth,
        byteOf (x.rasterHeight / 256), byteOf x.rasterHeight, byteOf x.keypadAuthority, x.noticeMask] := by
  simp [settingsBytes, bytesOf_two]

theorem noticeMask_low : ∀ b : Byte, b &&& 0xF0 = 0 → b &&& 0x0F = b := by decide

theorem parseSettings_settingsBytes {x : Settings} (h : x.ok = true) : parseSettings (settingsBytes x) = some x := by
  have hok := h
  simp only [Settings.ok, decide_eq_true_eq] at h
  obtain ⟨-, hl, -, hm, ha, -, hp, -, hw, -, hc, -, hx, -, hy, hk, hn⟩ := h
  simp only [settingsBytes_eq, parseSettings, numberOf_bytes_two (show x.ratedHours < 65536 by omega),
    numberOf_bytes_two (show x.marginHours < 65536 by omega), numberOf_bytes_two (show x.overrunHours < 65536 by omega),
    numberOf_bytes_two (show x.cooldown < 65536 by omega), numberOf_bytes_two (show x.rasterWidth < 65536 by omega),
    numberOf_bytes_two (show x.rasterHeight < 65536 by omega), byteOf_toNat (show x.preheat < 256 by omega),
    byteOf_toNat (show x.warmup < 256 by omega), byteOf_toNat (show x.keypadAuthority < 256 by omega),
    noticeMask_low _ hn]
  exact if_pos hok

/-! ## Wear -/

theorem parseWear_wearContent {w : WearRecord} (he : w.equivalent ≤ 4294967295) (hr : w.residue ≤ 15)
    (hl : w.litSeconds ≤ 4294967295) (hs : w.strikes ≤ 4294967295) (hlen : w.label.length ≤ 8)
    (hp : w.label.all printable = true) : parseWear (wearContent w) = some w := by
  have hform := labelForm_labelBytes hlen hp
  unfold wearContent
  rw [bytesOf_four, bytesOf_four, bytesOf_four]
  simp only [List.cons_append, List.nil_append, parseWear, hform, byteOf_toNat (show w.residue < 256 by omega), hr,
    numberOf_bytes_four he, numberOf_bytes_four hl, numberOf_bytes_four hs, decide_true, Bool.and_self, if_true]
  rfl

/-! ## Alias positions and schedule slots -/

theorem alias_ok_iff (e : AliasEntry) :
    e.ok = true ↔
      1 ≤ e.source ∧ e.source ≤ 63 ∧ 1 ≤ e.port ∧ e.port ≤ 6 ∧
        (∀ n, e.fallback = some n → 1 ≤ n ∧ n ≤ 63 ∧ n ≠ e.source) ∧ e.label.length ≤ 8 ∧
          e.label.all printable = true := by
  obtain ⟨source, port, fallback, label⟩ := e
  cases fallback <;> simp [AliasEntry.ok, and_assoc]

theorem aliasOf_aliasBytes {e : AliasEntry} (h : e.ok = true) : aliasOf (aliasBytes e) = some e := by
  obtain ⟨-, hs, -, hp, hf, -, -⟩ := (alias_ok_iff e).1 h
  have hfall : ofZeroAbsent (byteOf (zeroAbsent e.fallback)).toNat = e.fallback :=
    ofZeroAbsent_byteOf fun n hn => by
      obtain ⟨h1, h2, -⟩ := hf n hn
      omega
  simp only [aliasBytes, labelBytes, List.cons_append, List.nil_append, aliasOf, hfall,
    byteOf_toNat (show e.source < 256 by omega), byteOf_toNat (show e.port < 256 by omega)]

theorem parseAlias_filled {e : AliasEntry} (h : e.ok = true) : parseAlias (aliasContent (some e)) = some (some e) := by
  obtain ⟨-, -, -, -, -, hlen, hlab⟩ := (alias_ok_iff e).1 h
  have hform : labelForm ((aliasBytes e).drop 3) = true := labelForm_labelBytes hlen hlab
  have hlong : 4 ≤ (aliasBytes e).length := by simp [aliasBytes, labelBytes]
  have hm : ((1 : Byte) == 1 && decide (4 ≤ (aliasBytes e).length) && labelForm ((aliasBytes e).drop 3)) = true := by
    rw [hform, decide_eq_true hlong]
    rfl
  simp only [aliasContent, parseAlias, aliasOf_aliasBytes h, h, if_true]
  rw [if_neg (by decide)]
  exact if_pos hm

theorem parseEntry_entryBytes {e : Entry} (h : e.ok = true) : parseEntry (entryBytes e) = some e := by
  obtain ⟨-, hlt, hstop, hg, -, hd, hs, hp, hl⟩ := (entry_ok_iff e).1 h
  obtain ⟨hmode, hform⟩ := topAbsent_mode e.mode
  have hsource : ofZeroAbsent (byteOf (zeroAbsent e.source)).toNat = e.source :=
    ofZeroAbsent_byteOf fun n hn => by
      obtain ⟨h1, h2⟩ := hs n hn
      omega
  have hlevel : ofZeroAbsent (byteOf (zeroAbsent e.level)).toNat = e.level :=
    ofZeroAbsent_byteOf fun n hn => by
      obtain ⟨h1, h2⟩ := hl n hn
      omega
  have hpreset := topAbsent_byteOf (x := e.preset) fun n hn => by
    have := hp n hn
    omega
  unfold entryBytes
  rw [bytesOf_two, bytesOf_two]
  simp only [List.cons_append, List.nil_append, parseEntry, numberOf_bytes_two (show e.start < 65536 by omega),
    numberOf_bytes_two (show e.stop < 65536 by omega), byteOf_toNat (show e.group < 256 by omega),
    byteOf_toNat (show e.demand < 256 by omega), hsource, hlevel, hpreset, hmode]
  exact if_pos (by rw [hform, h]; rfl)

theorem parseSlot_filled {e : Entry} (h : e.ok = true) : parseSlot (slotContent (some e)) = some (some e) := by
  simp only [slotContent, parseSlot, parseEntry_entryBytes h]
  rfl

/-! ## Geometry -/

theorem parsePreset_presetContent {p : Option Keystone} (h : ∀ k, p = some k → k.ok = true) (rest : List Byte) :
    parsePreset (presetContent p ++ rest) = some (p, rest) := by
  cases p with
  | none => rfl
  | some k =>
    have hk := h k rfl
    simp only [presetContent, keystoneBytes, List.cons_append, List.nil_append, parsePreset, keystoneOf_bytes hk, hk,
      if_true]
    rfl

theorem parsePresets_flatMap (slots : List (Option Keystone)) (h : ∀ k, some k ∈ slots → k.ok = true)
    (more : List Byte) :
    parsePresets slots.length (slots.flatMap presetContent ++ more) = some (slots, more) := by
  induction slots with
  | nil => rfl
  | cons p slots ih =>
    have hp := parsePreset_presetContent (p := p) (fun k hk => h k (by simp [hk])) (slots.flatMap presetContent ++ more)
    simp only [List.length_cons, List.flatMap_cons, List.append_assoc, parsePresets, hp,
      ih fun k hk => h k (List.mem_cons_of_mem _ hk)]

theorem parseGeometry_geometryContent {k : Keystone} {presets : Vector (Option Keystone) 4} (hk : k.ok = true)
    (h : ∀ p, some p ∈ presets.toList → p.ok = true) :
    parseGeometry (geometryContent k presets) = some (k, presets) := by
  obtain ⟨a, b, c, d, hl⟩ : ∃ a b c d, presets.toList = [a, b, c, d] :=
    ⟨presets[0], presets[1], presets[2], presets[3], List.ext_getElem (by simp) fun i hi _ => by
      have : i < 4 := by simpa using hi
      interval_cases i <;> simp⟩
  have hv : presets = #v[a, b, c, d] := Vector.toList_inj.1 hl
  have hp := parsePresets_flatMap presets.toList h []
  rw [hl, List.append_nil] at hp
  have hp4 : parsePresets 4 ([a, b, c, d].flatMap presetContent) = some ([a, b, c, d], []) := hp
  simp only [geometryContent, keystoneBytes, List.cons_append, List.nil_append, parseGeometry, keystoneOf_bytes hk, hk,
    if_true, hl, hp4]
  rw [hv]

/-- Settles O53. -/
theorem storedRecordsRoundTrip : Obligations.StoredRecordsRoundTrip := by
  refine ⟨checkedContent_withCheck, fun x h => ⟨by rw [settingsBytes_eq]; rfl, parseSettings_settingsBytes h⟩,
    fun w he hr hl hs hlen hp => parseWear_wearContent he hr hl hs hlen hp, fun e h => ?_, fun e h => ?_,
    fun k presets hk h => parseGeometry_geometryContent hk h⟩
  · cases e with
    | none => rfl
    | some a => exact parseAlias_filled (h a rfl)
  · cases e with
    | none => rfl
    | some a => exact parseSlot_filled (h a rfl)

end Sys2Proof.Machine
end

section
/-! The load before its last record: how each record is taken, and what the parsers accept (R89, R113, R127, R151, R180,
R181). -/

namespace Sys2Proof.Machine

/-! ## The READ of a record -/

theorem readInTime_iff (s : State) :
    s.readInTime = true ↔ ∀ due, s.store.readTimer = some due → s.now ≤ due := by
  unfold State.readInTime
  cases s.store.readTimer <;> simp

theorem readEnds_takes {r : RecordId} {content : List Byte} {s : State} (hr : s.reading = some r)
    (ht : ∀ due, s.store.readTimer = some due → s.now ≤ due) :
    readEnds (withCheck content) s = nextRead (takeRecord r content s) := by
  rw [readEnds, hr]
  simp only [(readInTime_iff s).2 ht, if_true, checkedContent_withCheck]

theorem readEnds_fails {r : RecordId} {bytes : List Byte} {s : State} (hr : s.reading = some r)
    (h : checkedContent bytes = none ∨ ∃ due, s.store.readTimer = some due ∧ due < s.now) :
    readEnds bytes s = nextRead (recordFails r s) := by
  have hnone : (if s.readInTime then checkedContent bytes else none) = none := by
    obtain h | ⟨due, hd, hlt⟩ := h
    · rw [h, ite_self]
    · exact if_neg fun hc => Nat.not_le.2 hlt ((readInTime_iff s).1 hc due hd)
  rw [readEnds, hr]
  simp only [hnone]

theorem readFails_due {r : RecordId} {due : Nat} {s : State} (hr : s.reading = some r)
    (ht : s.store.readTimer = some due) (hd : due ≤ s.now) : readFails s = nextRead (recordFails r s) := by
  rw [readFails, hr]
  exact if_pos (runsOut_of_due ht hd)

theorem readFails_early {s : State} (h : ∀ due, s.store.readTimer = some due → s.now < due) : readFails s = s := by
  unfold readFails
  split
  · rfl
  · exact if_neg (by rw [runsOut_early h]; decide)

/-- Before the last record the load goes on to the next one. -/
theorem nextRead_goes {s u : State} (hs : s.store.loadIndex < 50) (hi : u.store.loadIndex = s.store.loadIndex)
    (hn : u.now = s.now) :
    nextRead u = u.withStore
      { u.store with loadIndex := s.store.loadIndex + 1, readTimer := some (s.now + 50) } := by
  unfold nextRead
  rw [hi, hn]
  refine if_neg fun hl => ?_
  have : 51 ≤ s.store.loadIndex + 1 := of_decide_eq_true hl
  omega

theorem recordFails_store (r : RecordId) (s : State) :
    (recordFails r s).store = { s.store with list := (recordFails r s).store.list } := by
  unfold recordFails
  rw [mark_store, latch_store]

theorem nextRead_fails {r : RecordId} {s : State} (h : s.store.loadIndex < 50) :
    nextRead (recordFails r s) =
      (recordFails r s).withStore
        { (recordFails r s).store with loadIndex := s.store.loadIndex + 1, readTimer := some (s.now + 50) } :=
  nextRead_goes h (by rw [recordFails_store]) (by simp [recordFails])

/-! ## The owners' rules -/

theorem takeRecord_settings {content : List Byte} {x : Settings} {s : State} (h : parseSettings content = some x) :
    takeRecord .settings content s = withStaged { s.store.staged with settings := x } s := by
  simp only [takeRecord, h]

theorem takeRecord_settings_fails {content : List Byte} {s : State} (h : parseSettings content = none) :
    takeRecord .settings content s = recordFails .settings s := by simp only [takeRecord, h]

theorem takeRecord_wear_fails {content : List Byte} {s : State} (h : parseWear content = none) :
    takeRecord .wear content s = recordFails .wear s := by simp only [takeRecord, h]

theorem takeRecord_wear {content : List Byte} {w : WearRecord} {s : State} (h : parseWear content = some w)
    (hw : w.equivalent < s.store.staged.settings.expiryLimit + 900) :
    takeRecord .wear content s = withStaged { s.store.staged with wear := w } s := by
  have hl : limitedWear s.store.staged.settings w = w := if_neg (Nat.not_le.2 hw)
  simp only [takeRecord, h, stageWear, hl, if_true]

theorem takeRecord_wear_limited {content : List Byte} {w : WearRecord} {s : State} (h : parseWear content = some w)
    (hw : s.store.staged.settings.expiryLimit + 900 ≤ w.equivalent) :
    takeRecord .wear content s =
      mark .wear (withStaged
        { s.store.staged with wear := { w with equivalent := s.store.staged.settings.expiryLimit } } s) := by
  have hl : limitedWear s.store.staged.settings w =
      { w with equivalent := s.store.staged.settings.expiryLimit } := if_pos hw
  have hne : { w with equivalent := s.store.staged.settings.expiryLimit } ≠ w := by
    intro hc
    have := congrArg WearRecord.equivalent hc
    dsimp only at this
    omega
  simp only [takeRecord, h, stageWear, hl, hne, if_false]

theorem repeatsSource_iff (table : Vector (Option AliasEntry) 16) (n : Nat) :
    repeatsSource table n = true ↔ ∃ a, some a ∈ table.toList ∧ a.source = n := by
  unfold repeatsSource
  rw [List.any_eq_true]
  constructor
  · rintro ⟨a, ha, hs⟩
    obtain ⟨_, hm, rfl⟩ := List.mem_filterMap.1 ha
    exact ⟨a, hm, beq_iff_eq.1 hs⟩
  · rintro ⟨a, ha, hs⟩
    exact ⟨a, List.mem_filterMap.2 ⟨some a, ha, rfl⟩, beq_iff_eq.2 hs⟩

theorem takeRecord_alias_fails {content : List Byte} {i : Fin 16} {s : State} (h : parseAlias content = none) :
    takeRecord (.aliasAt i) content s = recordFails (.aliasAt i) s := by simp only [takeRecord, h]

theorem takeRecord_alias_empty {content : List Byte} {i : Fin 16} {s : State} (h : parseAlias content = some none) :
    takeRecord (.aliasAt i) content s = s := by simp only [takeRecord, h, stageAlias]

theorem takeRecord_alias_repeats {content : List Byte} {i : Fin 16} {e : AliasEntry} {s : State}
    (h : parseAlias content = some (some e)) (hr : ∃ a, some a ∈ s.store.staged.table.toList ∧ a.source = e.source) :
    takeRecord (.aliasAt i) content s = recordFails (.aliasAt i) s := by
  simp only [takeRecord, h, stageAlias, (repeatsSource_iff _ _).2 hr, if_true]

theorem takeRecord_alias {content : List Byte} {i : Fin 16} {e : AliasEntry} {s : State}
    (h : parseAlias content = some (some e)) (hr : ∀ a, some a ∈ s.store.staged.table.toList → a.source ≠ e.source) :
    takeRecord (.aliasAt i) content s =
      withStaged { s.store.staged with table := s.store.staged.table.set i (some e) } s := by
  have hn : ¬ repeatsSource s.store.staged.table e.source = true := by
    rw [repeatsSource_iff]
    exact fun ⟨a, ha, hs⟩ => hr a ha hs
  simp only [takeRecord, h, stageAlias]
  exact if_neg hn

theorem takeRecord_entry_fails {content : List Byte} {i : Fin 32} {s : State} (h : parseSlot content = none) :
    takeRecord (.entryAt i) content s = recordFails (.entryAt i) s := by simp only [takeRecord, h]

theorem takeRecord_entry {content : List Byte} {i : Fin 32} {e : Option Entry} {s : State}
    (h : parseSlot content = some e) :
    takeRecord (.entryAt i) content s =
      withStaged { s.store.staged with entries := s.store.staged.entries.set i e } s := by
  simp only [takeRecord, h, stageSlot]

theorem takeRecord_geometry_fails {content : List Byte} {s : State} (h : parseGeometry content = none) :
    takeRecord .geometry content s = recordFails .geometry s := by simp only [takeRecord, h]

theorem takeRecord_geometry {content : List Byte} {k : Keystone} {presets : Vector (Option Keystone) 4} {s : State}
    (h : parseGeometry content = some (k, presets)) :
    takeRecord .geometry content s = withStaged { s.store.staged with keystone := k, presets := presets } s := by
  simp only [takeRecord, h]

/-! ## What the parsers accept -/

theorem parseSettings_ok {content : List Byte} {x : Settings} (h : parseSettings content = some x) :
    content.length = 19 ∧ x.ok = true := by
  unfold parseSettings at h
  split at h
  · dsimp only at h
    split at h
    · rename_i hok
      cases h
      exact ⟨rfl, hok⟩
    · cases h
  · cases h

theorem parseWear_label {content : List Byte} {w : WearRecord} (h : parseWear content = some w) :
    w.label.length ≤ 8 ∧ w.label.all printable = true := by
  unfold parseWear at h
  split at h
  · split at h
    · rename_i label hok
      simp only [Bool.and_eq_true] at hok
      cases h
      obtain ⟨hform, -⟩ := hok
      cases label with
      | nil => cases hform
      | cons len rest =>
        simp only [labelForm, Bool.and_eq_true, decide_eq_true_eq, beq_iff_eq] at hform
        obtain ⟨⟨hlen, hrest⟩, hp⟩ := hform
        exact ⟨Nat.le_trans (Nat.le_of_eq hrest) hlen, hp⟩
    · cases h
  · cases h

theorem parseAlias_ok {content : List Byte} {e : AliasEntry} (h : parseAlias content = some (some e)) :
    e.ok = true := by
  unfold parseAlias at h
  split at h
  · split at h
    · split at h <;> cases h
    split at h
    · split at h
      · split at h
        · rename_i hok
          cases h
          exact hok
        · cases h
      · cases h
    · cases h
  · cases h

end Sys2Proof.Machine
end

section
/-! The statement about the load (R74, R89, R127, R128, R180, R181). -/

namespace Sys2Proof.Machine

/-! ## Latched conditions -/

/-- A condition latched is latched, and leaves every other but TRANSMIT FAILED as it is. -/
theorem latched_latch {c d : Condition} {n : Nat} {s : State} (hc : c ≠ .transmitFailed) :
    (latch d n s).latched c = (s.latched c || decide (c = d)) := by
  by_cases hl : s.latched d = true
  · rw [show latch d n s = s from if_pos hl]
    by_cases h : c = d
    · subst h
      rw [hl]
      rfl
    · rw [decide_eq_false h, Bool.or_false]
  · have hs : Signals (s.withConditions (s.conditions ||| conditionBit d)) (latch d n s) := by
      rw [latch, if_neg hl]
      dsimp only
      split
      · exact offerMarked_signals _ _ _
      · exact .refl _
    rw [hs.latched c hc, latched_or]

theorem judgeLifeLow_lowLatched (s : State) :
    (judgeLifeLow s).latched .lifeLow =
      (s.latched .lifeLow || withinMargin s.store.settings s.wear.record.equivalent) := by
  unfold judgeLifeLow
  split
  · rename_i h
    rw [latched_latch (by decide), h]
    rfl
  · rename_i h
    rw [Bool.not_eq_true] at h
    rw [h, Bool.or_false]

theorem judgeLifeLow_latched {c : Condition} (s : State) (hc : c ≠ .transmitFailed) (hl : c ≠ .lifeLow) :
    (judgeLifeLow s).latched c = s.latched c := by
  unfold judgeLifeLow
  split
  · rw [latched_latch hc, decide_eq_false hl, Bool.or_false]
  · rfl

/-! ## Writes begun -/

/-- A write in flight stays in flight as the next would begin. -/
theorem beginWrite_flying {s : State} (h : s.store.inFlight ≠ none) : (beginWrite s).store.inFlight ≠ none := by
  rwa [beginWrite_waits (.inl h)]

theorem beginWrite_flies {s : State} (hi : 51 ≤ s.store.loadIndex) (hl : s.store.list ≠ []) :
    (beginWrite s).store.inFlight ≠ none := by
  by_cases hf : s.store.inFlight = none
  · obtain ⟨r, rest, hr⟩ := List.exists_cons_of_ne_nil hl
    rw [beginWrite_takes hf hi hr]
    nofun
  · exact beginWrite_flying hf

theorem mark_list_ne_nil (r : RecordId) (s : State) : (mark r s).store.list ≠ [] := by
  unfold mark
  split
  · exact List.ne_nil_of_mem ‹_›
  · exact List.append_ne_nil_of_right_ne_nil _ (List.cons_ne_nil _ _)

theorem markedBy_store (u t : State) :
    (markedBy u t).store = { u.store with list := (markedBy u t).store.list } := by
  unfold markedBy
  split
  · exact mark_store _ _
  · rfl

/-- What follows a command changes the Store's list and its write in flight alone, and ends no write. -/
theorem Followed.store {before u t : State} (h : Followed before u t) :
    t.store = { u.store with list := t.store.list, inFlight := t.store.inFlight } ∧
      (u.store.inFlight ≠ none → t.store.inFlight ≠ none) := by
  by_cases hl : (markedBy u t).store.list = before.store.list
  · rw [h.quietStore hl, markedBy_store]
    exact ⟨rfl, id⟩
  · rw [h.written hl]
    refine ⟨?_, fun hf => beginWrite_flying (by rwa [markedBy_store])⟩
    rw [beginWrite_store, markedBy_store]

/-- What follows a command leaves a lamp in COOLDOWN, and its wear. -/
theorem Followed.cooling {before u t : State} (h : Followed before u t) (hc : u.lamp.state = .cooldown) :
    t.lamp = u.lamp ∧ t.wear = u.wear := by
  refine ⟨?_, h.unlit (by rw [hc]; rfl)⟩
  obtain e | ⟨hd, -, -⟩ | ⟨hd, -, -⟩ := h.lamp
  · exact e
  · rw [hc] at hd
    cases hd
  · rw [hc] at hd
    cases hd

/-! ## The completed load -/

theorem nextRead_completes {s : State} (h : s.store.loadIndex = 50) :
    nextRead s = completeLoad (s.withStore { s.store with loadIndex := 51, readTimer := none }) := by
  unfold nextRead
  rw [h]
  exact if_pos (decide_eq_true (Nat.le_refl 51))

@[simp] theorem commitLoad_lamp (s : State) : (commitLoad s).lamp = s.lamp := rfl
@[simp] theorem commitLoad_now (s : State) : (commitLoad s).now = s.now := rfl
@[simp] theorem commitLoad_store (s : State) :
    (commitLoad s).store =
      { s.store with
        settings := s.store.staged.settings, toStore := s.store.staged.settings, staged := Staged.default } := rfl
@[simp] theorem commitLoad_wear (s : State) :
    (commitLoad s).wear = { record := s.store.staged.wear, sinceExtinction := none } := rfl
@[simp] theorem commitLoad_router (s : State) :
    (commitLoad s).router = { s.router with table := s.store.staged.table } := rfl
@[simp] theorem commitLoad_schedule (s : State) :
    (commitLoad s).schedule = { s.schedule with table := s.store.staged.entries } := rfl
@[simp] theorem commitLoad_geometry (s : State) :
    (commitLoad s).geometry =
      { s.geometry with current := s.store.staged.keystone, presets := s.store.staged.presets } := rfl

/-- The state as the load's records come into effect, before LIFE LOW is judged. -/
def loadCommitted (s : State) : State :=
  startCooldownTimer (commitLoad (s.withStore { s.store with loadIndex := 51, readTimer := none }))

theorem nextRead_completed {s : State} (h : s.store.loadIndex = 50) :
    nextRead s = beginWrite (produceCorners (judgeLifeLow (loadCommitted s))) := nextRead_completes h

/-- What a completed load leaves, from the records staged in the state `v` that its last record leaves. -/
structure Completed (v u : State) : Prop where
  store : u.store =
    { v.store with
      settings := v.store.staged.settings, toStore := v.store.staged.settings, staged := Staged.default,
      loadIndex := 51, readTimer := none, list := u.store.list, inFlight := u.store.inFlight }
  flying : v.store.list ≠ [] → u.store.inFlight ≠ none
  wear : u.wear = { record := v.store.staged.wear, sinceExtinction := none }
  router : u.router = { v.router with table := v.store.staged.table }
  schedule : u.schedule = { v.schedule with table := v.store.staged.entries }
  cooling : v.lamp.state = .cooldown →
    u.lamp = { v.lamp with timer := some (v.now + v.store.staged.settings.cooldown * 1000) }
  lifeLow : u.latched .lifeLow =
    (v.latched .lifeLow || withinMargin v.store.staged.settings v.store.staged.wear.equivalent)
  latched : ∀ c, c ≠ .transmitFailed → c ≠ .lifeLow → u.latched c = v.latched c
  geometry : v.geometry.inFlight = none → u.geometry =
    { v.geometry with
      current := v.store.staged.keystone
      presets := v.store.staged.presets
      inFlight := some
        { number := (v.geometry.lastNumber + 1) % 256
          corners := cornersOf v.store.staged.settings.rasterWidth v.store.staged.settings.rasterHeight
            v.store.staged.keystone
          sends := 1 }
      timer := some (v.now + 200)
      lastNumber := (v.geometry.lastNumber + 1) % 256 }

theorem loadCommitted_eq (v : State) :
    ∃ x, loadCommitted v =
      (commitLoad (v.withStore { v.store with loadIndex := 51, readTimer := none })).withLamp x := by
  obtain ⟨x, e, -⟩ := startCooldownTimer_eq
    (commitLoad (v.withStore { v.store with loadIndex := 51, readTimer := none }))
  exact ⟨_, e⟩

theorem startCooldownTimer_cooling {s : State} (h : s.lamp.state = .cooldown) :
    (startCooldownTimer s).lamp =
      { s.lamp with timer := some (s.now + s.store.settings.cooldown * 1000) } := by
  rw [startCooldownTimer, if_pos h]
  rfl

theorem loadCommitted_cooling {v : State} (h : v.lamp.state = .cooldown) :
    (loadCommitted v).lamp = { v.lamp with timer := some (v.now + v.store.staged.settings.cooldown * 1000) } := by
  rw [loadCommitted, startCooldownTimer_cooling (by simpa using h)]
  simp

theorem nextRead_isCompleted {v : State} (h : v.store.loadIndex = 50) : Completed v (nextRead v) := by
  rw [nextRead_completed h]
  obtain ⟨x, hc⟩ := loadCommitted_eq v
  have hlatched (c : Condition) :
      (beginWrite (produceCorners (judgeLifeLow (loadCommitted v)))).latched c =
        (judgeLifeLow (loadCommitted v)).latched c := by
    simp [State.latched]
  have hv (c : Condition) : (loadCommitted v).latched c = v.latched c := by simp [hc, State.latched]
  have hstore : (produceCorners (judgeLifeLow (loadCommitted v))).store =
      { v.store with
        settings := v.store.staged.settings, toStore := v.store.staged.settings, staged := Staged.default,
        loadIndex := 51, readTimer := none } := by
    simp [hc]
  exact
    { store := by rw [beginWrite_store, hstore]
      flying := fun hl => beginWrite_flies (by rw [hstore]) (by rw [hstore]; exact hl)
      wear := by simp [hc]
      router := by simp [hc]
      schedule := by simp [hc]
      cooling := fun hl => by
        rw [beginWrite_lamp, produceCorners_lamp, judgeLifeLow_lamp, loadCommitted_cooling hl]
      lifeLow := by
        rw [hlatched, judgeLifeLow_lowLatched, hv]
        simp [hc]
      latched := fun c ht hl => by rw [hlatched, judgeLifeLow_latched _ ht hl, hv]
      geometry := fun hg => by
        have hidle : (judgeLifeLow (loadCommitted v)).geometry.inFlight = none := by simpa [hc] using hg
        rw [beginWrite_geometry, produceCorners_idle hidle]
        simp [sendCorners, hc, Config.handoffTime] }

end Sys2Proof.Machine
end

section
/-! The statement about the load, assembled (R74, R89, R127, R128, R180, R181). -/

namespace Sys2Proof.Machine

/-! ## The load's end, after what follows it in the event -/

/-- The records staged in `v` have come into effect in `t`. -/
def LoadDone (v t : State) : Prop :=
  t.store.settings = v.store.staged.settings ∧ t.store.toStore = v.store.staged.settings ∧ t.store.loadIndex = 51 ∧
    t.store.readTimer = none ∧ t.wear.record = v.store.staged.wear ∧ t.router.table = v.store.staged.table ∧
    t.schedule.table = v.store.staged.entries ∧
    (v.lamp.state = .cooldown →
      t.lamp.state = .cooldown ∧ t.lamp.timer = some (v.now + v.store.staged.settings.cooldown * 1000) ∧
        t.wear.sinceExtinction = none) ∧
    (t.latched .lifeLow = true ↔
      v.latched .lifeLow = true ∨
        v.store.staged.settings.ratedHours * 3600 <
          v.store.staged.wear.equivalent + v.store.staged.settings.marginHours * 3600) ∧
    t.geometry.lastNumber = (v.geometry.lastNumber + 1) % 256

/-- The first corner set, of the keystone staged in `v`, is in flight in `t` (R128). -/
def CornersSent (v t : State) : Prop :=
  t.geometry.current = v.store.staged.keystone ∧ t.geometry.timer = some (v.now + 200) ∧
    t.geometry.inFlight =
      some
        { number := (v.geometry.lastNumber + 1) % 256
          corners := cornersOf v.store.staged.settings.rasterWidth v.store.staged.settings.rasterHeight
            v.store.staged.keystone
          sends := 1 }

namespace Completed

variable {s v u t : State} (hu : Completed v u) (hf : Followed s u t)
include hu hf

theorem latched_after {c : Condition} (ht : c ≠ .transmitFailed) (hl : c ≠ .lifeLow) :
    t.latched c = v.latched c := by
  rw [State.latched, hf.conditions]
  exact hu.latched c ht hl

theorem done (hg : v.geometry.inFlight = none) : LoadDone v t := by
  obtain ⟨hstore, -⟩ := hf.store
  refine ⟨by rw [hstore, hu.store], by rw [hstore, hu.store], by rw [hstore, hu.store], by rw [hstore, hu.store],
    by rw [hf.wearRecord, hu.wear], by rw [hf.router, hu.router], by rw [hf.schedule, hu.schedule], fun hc => ?_, ?_,
    by rw [hf.geometry, hu.geometry hg]⟩
  · have hlamp := hu.cooling hc
    obtain ⟨htl, htw⟩ := hf.cooling (by rw [hlamp]; exact hc)
    rw [htl, htw, hlamp, hu.wear]
    exact ⟨hc, rfl, rfl⟩
  · rw [State.latched, hf.conditions]
    refine (Bool.eq_iff_iff.1 hu.lifeLow).trans ?_
    rw [Bool.or_eq_true, withinMargin, decide_eq_true_eq]
    rfl

theorem sent (hg : v.geometry.inFlight = none) : CornersSent v t := by
  rw [CornersSent, hf.geometry, hu.geometry hg]
  exact ⟨rfl, rfl, rfl⟩

theorem presets (hg : v.geometry.inFlight = none) : t.geometry.presets = v.store.staged.presets := by
  rw [hf.geometry, hu.geometry hg]

theorem writing (hl : v.store.list ≠ []) : t.store.inFlight ≠ none := by
  obtain ⟨-, hflying⟩ := hf.store
  exact hflying (hu.flying hl)

end Completed

/-! ## The last record fails -/

theorem recordFails_geometry (r : RecordId) (s : State) : (recordFails r s).geometry = s.geometry := by
  simp [recordFails]

theorem recordFails_latched {c : Condition} (r : RecordId) (s : State) (hc : c ≠ .transmitFailed) :
    (recordFails r s).latched c = (s.latched c || decide (c = .storeFault)) := by
  rw [recordFails, State.latched, mark_conditions]
  exact latched_latch hc

/-- A failing record leaves what the load's end looks at. -/
theorem loadDone_recordFails (r : RecordId) (s t : State) : LoadDone (recordFails r s) t ↔ LoadDone s t := by
  have hl : (recordFails r s).latched .lifeLow = s.latched .lifeLow :=
    (recordFails_latched r s (by decide)).trans (Bool.or_false _)
  have hlamp : (recordFails r s).lamp = s.lamp := by simp [recordFails]
  have hnow : (recordFails r s).now = s.now := by simp [recordFails]
  unfold LoadDone
  rw [recordFails_store, recordFails_geometry, hl, hlamp, hnow]

theorem cornersSent_recordFails (r : RecordId) (s t : State) : CornersSent (recordFails r s) t ↔ CornersSent s t := by
  have hnow : (recordFails r s).now = s.now := by simp [recordFails]
  unfold CornersSent
  rw [recordFails_store, recordFails_geometry, hnow]

/-- A geometry record that does not parse fails, whether its bytes pass the check or not. -/
theorem readEnds_geometry_fails {bytes : List Byte} {s : State} (hr : s.reading = some .geometry)
    (h : (∃ due, s.store.readTimer = some due ∧ due < s.now) ∨
      ∀ content, checkedContent bytes = some content → parseGeometry content = none) :
    readEnds bytes s = nextRead (recordFails .geometry s) := by
  cases hc : checkedContent bytes with
  | none => exact readEnds_fails hr (.inl hc)
  | some content =>
    obtain hlate | hparse := h
    · exact readEnds_fails hr (.inr hlate)
    · rw [readEnds, hr]
      simp only [hc]
      split
      · rename_i content' he
        split at he
        · cases he
          rw [takeRecord_geometry_fails (hparse _ hc)]
        · cases he
      · rfl

theorem reading_last {s : State} (h : s.store.loadIndex = 50) : s.reading = some .geometry := by
  rw [State.reading, h]
  decide

/-! ## One record of the load -/

section Record

variable {r : RecordId} {s : State} (hr : s.released = true) (hi : s.store.loadIndex < 50) (hread : s.reading = some r)
include hr hi hread

theorem readAnswered_fails {content : List Byte} (ht : ∀ due, s.store.readTimer = some due → s.now ≤ due)
    (h : takeRecord r content s = recordFails r s) :
    Effects (.readAnswered (withCheck content)) s
      ((recordFails r s).withStore
        { (recordFails r s).store with loadIndex := s.store.loadIndex + 1, readTimer := some (s.now + 50) }) := by
  refine effects_of_command hr rfl ((readEnds_takes hread ht).trans ?_)
  rw [h]
  exact nextRead_fails hi

theorem readAnswered_takes {content : List Byte} {u : State}
    (ht : ∀ due, s.store.readTimer = some due → s.now ≤ due) (h : takeRecord r content s = u)
    (hu : u.store.loadIndex = s.store.loadIndex) (hn : u.now = s.now) :
    Effects (.readAnswered (withCheck content)) s
      (u.withStore { u.store with loadIndex := s.store.loadIndex + 1, readTimer := some (s.now + 50) }) := by
  refine effects_of_command hr rfl ((readEnds_takes hread ht).trans ?_)
  rw [h]
  exact nextRead_goes hi hu hn

end Record

/-- Settles O51. -/
theorem loadTakesTheRecordsInTurn : Obligations.LoadTakesTheRecordsInTurn := by
  refine ⟨fun r s hr hi hread => ?_, fun content => ⟨fun x => parseSettings_ok, fun w h => ⟨parseWear_residue h,
      parseWear_label h⟩, fun e => parseAlias_ok, fun e h => parseSlot_ok h e rfl, fun k presets => parseGeometry_law⟩,
    fun s h => command_same (readFails_early h), fun content due s hi ht hd hp => ?_, fun k presets s hr hi hg => ?_⟩
  · intro next failed staged expiry
    refine ⟨fun due ht hd => effects_of_command hr rfl ((readFails_due hread ht hd).trans (nextRead_fails hi)),
      fun bytes h => effects_of_command hr rfl ((readEnds_fails hread h).trans (nextRead_fails hi)), fun content ht => ?_⟩
    refine ⟨?_, ?_, ?_, ?_, ?_, ?_, ?_, ?_, ?_⟩
    · rintro rfl h
      exact readAnswered_fails hr hi hread ht (takeRecord_settings_fails h)
    · rintro x rfl h
      exact readAnswered_takes hr hi hread ht (takeRecord_settings h) rfl rfl
    · rintro rfl h
      exact readAnswered_fails hr hi hread ht (takeRecord_wear_fails h)
    · rintro w rfl h
      refine ⟨fun hw => readAnswered_takes hr hi hread ht (takeRecord_wear h hw) rfl rfl, fun hw => ?_⟩
      exact readAnswered_takes hr hi hread ht (takeRecord_wear_limited h hw) (by rw [mark_store]; rfl) (mark_now _ _)
    · rintro i rfl h
      exact readAnswered_fails hr hi hread ht (takeRecord_alias_fails h)
    · rintro i rfl h
      exact readAnswered_takes hr hi hread ht (takeRecord_alias_empty h) rfl rfl
    · rintro i e rfl h
      exact ⟨fun ha => readAnswered_fails hr hi hread ht (takeRecord_alias_repeats h ha),
        fun ha => readAnswered_takes hr hi hread ht (takeRecord_alias h ha) rfl rfl⟩
    · rintro i rfl h
      exact readAnswered_fails hr hi hread ht (takeRecord_entry_fails h)
    · rintro i e rfl h
      exact readAnswered_takes hr hi hread ht (takeRecord_entry h) rfl rfl
  · have hread := reading_last hi
    refine command_congr (f := readEnds (withCheck content)) (g := readFails) ?_
    rw [readFails_due hread ht hd]
    refine readEnds_geometry_fails hread (.inr fun c hc => ?_)
    rw [checkedContent_withCheck] at hc
    cases hc
    exact hp
  · intro x completed sent
    have hread := reading_last hi
    refine ⟨fun c hc => ?_, fun content ht hp => ?_⟩
    · have heff : Effects c s (nextRead (recordFails .geometry s)) := by
        obtain ⟨rfl, due, ht, hd⟩ | ⟨bytes, rfl, h⟩ := hc
        · exact effects_of_command hr rfl (readFails_due hread ht hd)
        · exact effects_of_command hr rfl (readEnds_geometry_fails hread h)
      obtain ⟨t, ht, hf⟩ := heff
      have hu := nextRead_isCompleted (v := recordFails .geometry s) (by rw [recordFails_store]; exact hi)
      have hidle : (recordFails .geometry s).geometry.inFlight = none := by rw [recordFails_geometry]; exact hg
      have hpresets := hu.presets hf hidle
      rw [recordFails_store] at hpresets
      refine ⟨t, ht, (loadDone_recordFails _ _ _).1 (hu.done hf hidle), (cornersSent_recordFails _ _ _).1 (hu.sent hf hidle),
        hpresets, hu.writing hf (mark_list_ne_nil _ _), ?_⟩
      have hfault := hu.latched_after hf (c := .storeFault) (by decide) (by decide)
      rw [recordFails_latched _ _ (by decide)] at hfault
      exact hfault.trans (Bool.or_true _)
    · have heff : Effects (.readAnswered (withCheck content)) s
          (nextRead (withStaged { s.store.staged with keystone := k, presets := presets } s)) := by
        refine effects_of_command hr rfl ((readEnds_takes hread ht).trans ?_)
        rw [takeRecord_geometry hp]
      obtain ⟨t, ht, hf⟩ := heff
      have hu := nextRead_isCompleted (v := withStaged { s.store.staged with keystone := k, presets := presets } s) hi
      exact ⟨t, ht, hu.done hf hg, hu.sent hf hg, hu.presets hf hg,
        hu.latched_after hf (c := .storeFault) (by decide) (by decide)⟩

end Sys2Proof.Machine
end
